-- ==== Sys2Proof/Word.lean ====
section
/-! DEFINITION. The byte and the few constants of width that every other file uses (spec 00, "Quantities and units" and
"Counters"). -/

namespace Sys2Proof

/-- One byte on the transfer link or on the station port. -/
abbrev Byte := BitVec 8

/-- The largest value of a 32-bit field: the stop of every saturating counter and of GSV and mass. -/
def max32 : Nat := 4294967295

/-- Raise a 32-bit saturating counter by `d` (spec 00, "Counters"). -/
def satAdd (n d : Nat) : Nat := min max32 (n + d)

end Sys2Proof
end

