-- ==== Sys2Proof/Config.lean ====
section
/-! DEFINITION. The fixed capacities and intervals of the part, and the one free value. -/

namespace Sys2Proof.Config

/-- Slots of the link (spec 00, R164). -/
def linkSlots : Nat := 16
/-- Parcels of a sheet (R164). -/
def parcels : Nat := 8
/-- Own points (R24, R164). -/
def ownPoints : Nat := 24
/-- Peer entries (R24, R164). -/
def peerEntries : Nat := 160
/-- Watch keys (R152, R164). -/
def watchKeys : Nat := 16
/-- Frames the receive queue holds (R110). -/
def receiveQueue : Nat := 16
/-- Bit times of recessive line that make quiet (R91). -/
def quietBits : Nat := 48
/-- Bit times in one second: one bit time is 4 µs (R89). -/
def bitsPerSecond : Nat := 250000
/-- The presence timer's interval in seconds (R129). -/
def presenceSeconds : Nat := 8
/-- Consecutive clashes, or consecutive failed receptions, that make a link fault (R98, R99). -/
def faultRun : Nat := 16
/-- The start byte of a frame (section 10.1). -/
def startByte : Byte := 0xA7
/-- The longest body of a frame (R168). -/
def longestBody : Nat := 61
/-- The family code and the silicon revision that IDENTIFY returns (R164, R171). -/
def familyCode : Nat := 0x4216
def siliconRevision : Nat := 1

/-- FREE VALUE (log 11). A computation during which the table changed stores the totals of "some reading of the table"
(R67), and the spec gives no order of reading (R51). For the `free`-th such computation, the record `(slot, item)` was
read from the version of the table that this number names (taken modulo the number of versions there were). Nothing
constrains it. -/
opaque readingPick (free slot item : Nat) : Nat

end Sys2Proof.Config
end

