-- ==== Sys2Proof/Syntax.lean ====
section
/-! DEFINITION. The commands of the node: one constructor per row of spec/opcode_table.json, in the table's order.
Parameters of a station port request are raw words at the widths of section 10.2: what is out of range or names no code
is for the owning rule to refuse (R170). -/

namespace Sys2Proof

/-- A command: a station port request as a whole selection, or an event of the link, of a timer, of a timed operation or
of the RESET input. -/
inductive Instr where
  /-- POWER_ON_RESET (R142). `byInput`: the RESET input is asserted; otherwise power is applied with RESET released. -/
  | powerOnReset (byInput : Bool)
  /-- UNKNOWN_REQUEST (R157): a selection whose first byte is `code`. -/
  | unknownRequest (code : Byte)
  /-- EARLY_DESELECTION (R158): SEL goes high when `bits` whole bits of the request have been clocked in. -/
  | earlyDeselection (bits : Nat)
  | status
  | identify
  | sheetBegin (number : BitVec 32) (revision : BitVec 16) (ownSlot direction amendMode : Byte)
      (silence : BitVec 16) (republish : Byte)
  | sheetParcel (parcel : Byte) (tRef a b d : BitVec 16) (vef : BitVec 24) (inner outer : BitVec 16) (custody : Byte)
  | sheetRoster (slot role : Byte)
  | sheetPoint (point parcel : Byte) (meterFactor : BitVec 24)
  | sheetEnd
  | sheetEndComplete
  | start
  | post (point epoch : Byte) (quantity water : BitVec 32) (temperature : BitVec 16)
  | stuGrant
  | stuObservationComputed
  | postStore
  | permit
  | revoke
  | withdraw (point : Byte)
  | withdrawalMade
  | finalise
  | finaliseMade
  | attest (parcel epoch : Byte)
  | intakeHoldSet
  | attestScanComplete
  | restart
  | restartChange
  | linkReset
  | serviceQuery
  | acknowledge (kind subject : Byte)
  | noticeEnable (kind setting : Byte)
  | edgeSelect (parcel setting : Byte)
  | watchAdd (slot point : Byte)
  | watchRemove (slot point : Byte)
  | readPoint (point : Byte)
  /-- READ_ENTRY (R162, R170). `first`, `second`: slot and point by key; index and an ignored byte by index. -/
  | readEntry (form first second : Byte)
  | readParcel (parcel : Byte)
  | readAttest (parcel epoch : Byte)
  | readPeer (slot : Byte)
  | readCounters
  | readNotices
  | walk (index : Byte)
  | walkRecordTaken
  | walkDeselected
  | quiet
  | claimDecision
  | windowEnd
  | turnGap
  | turnTimeout
  /-- SEND_COMPLETE (R97). `stopDominant`: the last stop bit was read back dominant (R98). -/
  | sendComplete (stopDominant : Bool)
  | clash
  | clashMarkEnd
  | receptionFailed
  /-- FRAME_RECEIVED (R96): the bytes of a frame from its start byte to its check, as read on the line. -/
  | frameReceived (bytes : List Byte)
  | intakeTakeFrame
  | frameMerge
  | comparisonComplete
  | balanceTake
  | balanceComplete
  | silenceTimerExpiry (slot : BitVec 4)
  | presenceTimerExpiry
  | republishTimerExpiry
  /-- DOMINANT_LEVEL_READ (R91). `startBit`: the level is still dominant at the middle of its first bit time (R89). -/
  | dominantLevelRead (startBit : Bool)
  /-- CLAIM_SLOT_SAMPLE (R92). `dominant`: the level other nodes put on the line in that slot. -/
  | claimSlotSample (slot : BitVec 4) (dominant : Bool)
  /-- RESET_RELEASED (R161). `selLow`: a selection is under way (SEL is low) when RESET is released. -/
  | resetReleased (selLow : Bool)
deriving DecidableEq, Repr

end Sys2Proof
end

