-- ==== Sys2Proof/Machine/State.lean ====
section
/-! DEFINITION. The node's whole state as plain data, one structure per block of spec 00, and the state after a power-on
reset. Numbers the node computes with are `Nat` or `Int`; words that wrap or that software reads as bit sets are
bit vectors. -/

namespace Sys2Proof.Machine

/-! ### Names (section 10.4 gives their codes) -/

inductive Epoch where
  | opening | interim | closing
deriving DecidableEq, Repr

inductive PointKind where
  | shipTank | shoreTank | meter
deriving DecidableEq, Repr

inductive Role where
  | empty | ship | shoreTanks | shoreMeters | survey
deriving DecidableEq, Repr

inductive NodeState where
  | blank | loading | loaded | active | final
deriving DecidableEq, Repr

inductive Direction where
  | discharge | loading
deriving DecidableEq, Repr

inductive AmendMode where
  | each | held | none
deriving DecidableEq, Repr

inductive CustodySide where
  | tanks | meters
deriving DecidableEq, Repr

inductive Verdict where
  | noBasis | within | marginal | outside
deriving DecidableEq, Repr

inductive ComputeStatus where
  | idle | queued | computing | computingRedo
deriving DecidableEq, Repr

inductive PeerState where
  | unheard | present | absent | foreign
deriving DecidableEq, Repr

inductive Protection where
  | none | throughOpening | throughClosing
deriving DecidableEq, Repr

inductive EdgeSelect where
  | worse | better | both | none
deriving DecidableEq, Repr

/-- The result codes of section 9.2. -/
inductive ResultCode where
  | done | accepted | busy | state | unknown | short | range | noPoint | noParcel | withdrawn | order | closed
  | isProtected | noPermit | revisionLimit | incomplete | sheetInvalid | duplicate | full | notFound | finalised
deriving DecidableEq, Repr

/-- The notice kinds of R145. -/
inductive NoticeKind where
  | verdictWorse | verdictBetter | viewDiverge | peerAbsent | peerReturn | sheetMismatch | computeMismatch | tableFull
  | limit | watch | linkFault
deriving DecidableEq, Repr

/-! ### Observations (chapter 1) -/

/-- The five observation qualifiers (R12). -/
structure ObsQuals where
  waterClamp : Bool := false
  dtClamp : Bool := false
  vcfClamp : Bool := false
  gsvSat : Bool := false
  massSat : Bool := false
deriving DecidableEq, Repr

/-- The raw figures of an observation (R1). -/
structure RawFigures where
  quantity : Nat
  water : Nat
  temperature : Int
deriving DecidableEq, Repr

/-- The standard values the five stages compute (R1, R4 to R10, R12). -/
structure Standard where
  vcf : Nat
  gsv : Nat
  mass : Nat
  quals : ObsQuals
deriving DecidableEq, Repr

/-- An observation as an own point record holds it (R1). -/
structure Observation where
  revision : Nat
  raw : RawFigures
  std : Standard
deriving DecidableEq, Repr

/-- What a peer's block carries beside the raw figures (R14). -/
structure SourceFigures where
  gsv : Nat
  quals : ObsQuals
deriving DecidableEq, Repr

/-- An observation as a peer entry holds it (R1, R14, R15, R40). -/
structure PeerObservation where
  obs : Observation
  source : SourceFigures
  mismatch : Bool
  conflict : Bool
deriving DecidableEq, Repr

/-- The three observation slots of a record (R1). -/
structure Slots (α : Type) where
  opening : Option α := none
  interim : Option α := none
  closing : Option α := none
deriving DecidableEq, Repr

/-! ### Sheet Store (chapter 7) -/

structure Header where
  number : Nat
  revision : Nat
  ownSlot : Nat
  direction : Direction
  amendMode : AmendMode
  /-- seconds -/
  silence : Nat
  /-- seconds -/
  republish : Nat
deriving DecidableEq, Repr

structure ParcelDef where
  number : Nat
  tRef : Int
  a : Nat
  b : Nat
  d : Nat
  vef : Nat
  inner : Nat
  outer : Nat
  custody : CustodySide
deriving DecidableEq, Repr

structure PointDef where
  number : Nat
  parcel : Nat
  meterFactor : Nat
deriving DecidableEq, Repr

/-- A transfer sheet: `parcels` and `points` in ascending number, `roster` one role per link slot. -/
structure Sheet where
  header : Header
  parcels : List ParcelDef
  roster : List Role
  points : List PointDef
deriving DecidableEq, Repr

structure SheetStore where
  node : NodeState
  sheet : Option Sheet
  /-- the number of the failed check, 0 for none (R137) -/
  reason : Nat
deriving DecidableEq, Repr

/-! ### Standardisation Unit (section 1.6) -/

inductive Requester where
  | port | intake
deriving DecidableEq, Repr

/-- One observation to be standardised (R3): `source` is absent for an own observation. -/
structure StuItem where
  parcel : Nat
  kind : PointKind
  meterFactor : Nat
  epoch : Epoch
  raw : RawFigures
  /-- revision and source figures of a peer block (R15) -/
  source : Option (Nat × SourceFigures)
deriving DecidableEq, Repr

/-- A standardised observation; `mismatch` has a meaning for peer blocks only (R15). -/
structure StuResult where
  item : StuItem
  std : Standard
  mismatch : Bool
deriving DecidableEq, Repr

/-- A request in service: the observations still to serve and the results so far (R18). -/
structure StuService where
  requester : Requester
  todo : List StuItem
  results : List StuResult
deriving DecidableEq, Repr

structure Stu where
  inService : Option StuService
  portWaiting : Option (List StuItem)
  intakeWaiting : Option (List StuItem)
  lastServed : Requester
deriving DecidableEq, Repr

/-! ### Figure Table (chapter 2) -/

structure OwnPoint where
  number : Nat
  kind : PointKind
  parcel : Nat
  meterFactor : Nat
  withdrawn : Bool
  slots : Slots Observation
  protection : Protection
deriving DecidableEq, Repr

structure PeerEntry where
  slot : Nat
  point : Nat
  kind : PointKind
  parcel : Nat
  meterFactor : Nat
  slots : Slots PeerObservation
deriving DecidableEq, Repr

inductive HoldParty where
  | attestation | intake
deriving DecidableEq, Repr

/-- The intake hold (R27): CLEAR is no holder and nobody waiting, WAITING is the Attestation Unit waiting with no
holder, SET is a holder; the Attestation Unit may go on waiting while the Frame Intake holds it. -/
structure Hold where
  holder : Option HoldParty
  waiting : Bool
deriving DecidableEq, Repr

structure FigureTable where
  own : List OwnPoint
  entries : List PeerEntry
  permit : Bool
  hold : Hold
  changeCount : BitVec 32
  /-- results of a POST handed over by the STU and not yet stored (R28, R31) -/
  postResult : Option StuResult
deriving DecidableEq, Repr

/-! ### Peer Registry (section 6.3) -/

structure HeardValues where
  role : Role
  number : Nat
  revision : Nat
deriving DecidableEq, Repr

structure PeerRecord where
  state : PeerState
  heard : Option HeardValues
  generation : Option (BitVec 8)
  baseline : Option (BitVec 16)
  declaredCount : Nat
  declaredMask : BitVec 8
  finalised : Bool
  accepted : Nat
  missing : Nat
  /-- bit times remaining, `none` while stopped -/
  timer : Option Nat
  mismatch : Bool
deriving DecidableEq, Repr

/-! ### Balance Engine (chapter 3) -/

structure ParcelQuals where
  isPartial : Bool := false
  stale : Bool := false
  limited : Bool := false
  closed : Bool := false
  definitive : Bool := false
deriving DecidableEq, Repr

/-- The computed fields of a parcel record (R49). -/
structure ParcelResult where
  shipTotal : Int
  custodyTotal : Int
  checkTotal : Int
  shipMass : Int
  custodyMass : Int
  checkMass : Int
  shipCount : Nat
  custodyCount : Nat
  checkCount : Nat
  lackingCount : Nat
  shipAdjusted : Int
  difference : Int
  ratio : Option Int
  verdict : Verdict
  quals : ParcelQuals
deriving DecidableEq, Repr

structure ParcelRecord where
  parcel : Nat
  result : ParcelResult
  settled : Bool
  status : ComputeStatus
  count : BitVec 32
  lastNotified : Verdict
deriving DecidableEq, Repr

/-- What a computation reads: the figure table, the peer records and the node state (section 3.2). -/
structure Reading where
  own : List OwnPoint
  entries : List PeerEntry
  peers : List PeerRecord
  node : NodeState
deriving DecidableEq, Repr

structure BalanceEngine where
  records : List ParcelRecord
  queue : List Nat
  computing : Option Nat
  /-- model's own: the readings the computation in progress may have met, oldest first (log 11) -/
  seen : List Reading
deriving DecidableEq, Repr

/-! ### Attestation Unit (chapter 4) -/

structure Summary where
  count : Nat
  sum : Nat
deriving DecidableEq, Repr

structure AttestRecord where
  parcel : Nat
  epoch : Epoch
  summary : Option Summary
  /-- bit `s` for station slot `s` -/
  matching : BitVec 16
  diverging : BitVec 16
  changedSince : Bool
deriving DecidableEq, Repr

/-! ### Line Access Unit (chapter 5) -/

/-- What the LAU does within a round; `sending` holds the frame's bytes and how many bits of it have been driven. -/
inductive RoundPhase where
  | awaiting
  | receiving
  | sending (frame : List Byte) (driven : Nat)
  | clashMark
deriving DecidableEq, Repr

inductive LineState where
  | off
  | seek
  | window
  | round (phase : RoundPhase)
deriving DecidableEq, Repr

structure Lau where
  line : LineState
  quietCount : Nat
  claimWord : BitVec 16
  ownClaim : Bool
  pointer : Option Nat
  mute : Bool
  clashRun : Nat
  failureRun : Nat
  framesSent : Nat
  clashes : Nat
  /-- model's own: the claim decision of this window has been made -/
  decided : Bool
  /-- the own claim slot is being driven -/
  claiming : Bool
  /-- model's own: the line has stayed recessive since the reference instant (R94) -/
  lineClear : Bool
  /-- model's own: the turn gap of this reference instant has passed (R94) -/
  gapPassed : Bool
  /-- model's own: the node has started a frame in this round (R97) -/
  sentInRound : Bool
deriving DecidableEq, Repr

/-! ### Frame Intake (section 6.2) -/

/-- A valid frame in the receive queue: its header and body, without start byte, length and check (R107). -/
structure Frame where
  kind : BitVec 4
  source : BitVec 4
  generation : BitVec 8
  sequence : BitVec 16
  body : List Byte
deriving DecidableEq, Repr

/-- The frame being merged (R27): a FIGURE frame at the STU or ready to be stored, or an ATTEST frame compared. -/
inductive Merge where
  | figure (slot point : Nat) (kind : PointKind) (parcel meterFactor : Nat) (results : Option (List StuResult))
  | comparison (slot parcel : Nat) (epoch : Epoch) (theirs : Summary)
deriving DecidableEq, Repr

/-- The counters of R114. -/
structure IntakeCounters where
  checkFailures : Nat := 0
  overruns : Nat := 0
  unlisted : Nat := 0
  malformed : Nat := 0
  notPresent : Nat := 0
  foreign : Nat := 0
  missing : Nat := 0
  stepBacks : Nat := 0
  tableFull : Nat := 0
  oldRevisions : Nat := 0
  conflicts : Nat := 0
deriving DecidableEq, Repr

structure FrameIntake where
  queue : List Frame
  merging : Option Merge
  counters : IntakeCounters
deriving DecidableEq, Repr

/-! ### Publisher (section 6.4) -/

inductive Subject where
  | presence
  | point (k : Nat)
  | attest (parcel : Nat) (epoch : Epoch)
deriving DecidableEq, Repr

structure Job where
  subject : Subject
  inFlight : Bool
  resend : Bool
deriving DecidableEq, Repr

structure Publisher where
  queue : List Job
  rotation : Option Subject
  /-- bit times remaining, `none` while stopped -/
  presenceTimer : Option Nat
  republishTimer : Option Nat
  sequence : BitVec 16
  generation : BitVec 8
deriving DecidableEq, Repr

/-! ### Notice Unit (chapter 8) -/

structure Notice where
  kind : NoticeKind
  subject : Nat
  count : Nat
deriving DecidableEq, Repr

structure WatchKey where
  slot : Nat
  point : Nat
deriving DecidableEq, Repr

/-- `pending` in presentation order; bit `k` of `enables` is kind number `k`; `edges` by parcel number less one;
`watch` by watch index. -/
structure NoticeUnit where
  pending : List Notice
  enables : BitVec 11
  edges : List EdgeSelect
  watch : List (Option WatchKey)
deriving DecidableEq, Repr

/-! ### Station Port (chapter 9) -/

/-- The long operations of R159, with the parameters the rest of the operation needs. -/
inductive LongOp where
  | post (point : Nat)
  | withdraw (point : Nat)
  | attest (parcel : Nat) (epoch : Epoch)
  | finalise
  | restart
  | linkReset
  | sheetEnd
deriving DecidableEq, Repr

/-- How far a WALK has gone (R165): before its first record, or after the record of a key. -/
inductive WalkPos where
  | start (index : Nat)
  | afterOwn (point : Nat)
  | afterEntry (slot point : Nat)
deriving DecidableEq, Repr

structure StationPort where
  busy : Option LongOp
  last : ResultCode
  walk : Option WalkPos
  /-- a selection that was under way when RESET was released is still under way (R161) -/
  ignoring : Bool
  /-- the bytes presented on SDO from the result code on, for the last request taken -/
  reply : List Byte
deriving DecidableEq, Repr

/-! ### The node -/

/-- The whole node. `peers` has one record per link slot. -/
structure State where
  sheet : SheetStore
  stu : Stu
  table : FigureTable
  balance : BalanceEngine
  attest : List AttestRecord
  lau : Lau
  intake : FrameIntake
  peers : List PeerRecord
  pub : Publisher
  notices : NoticeUnit
  port : StationPort
  /-- the RESET input is asserted (R142) -/
  resetAsserted : Bool
  /-- model's own: picks the next free value (log 11) -/
  freeIx : Nat
  /-- model's own: the commands that are waiting, first in, first out -/
  pending : List Instr
deriving DecidableEq, Repr

/-- No command faults: the spec describes no event that stops the node (INVENTORY.md, "Faults"). Safe: the type is
empty, so no claim can rest on a fault. -/
inductive Fault where
deriving DecidableEq, Repr

/-- Why a command has no meaning in this model. -/
inductive Refusal where
  /-- Raised by `exec` alone, for a command with no meaning yet; no arm raises it. Safe: the machine stops where the
  hardware goes on. -/
  | notModelled (mnemonic : String)
deriving DecidableEq, Repr

/-! ### Power-on values -/

/-- R20, "Power-on". -/
def Stu.reset : Stu := { inService := none, portWaiting := none, intakeWaiting := none, lastServed := .intake }

/-- CLEAR (R27). -/
def Hold.clear : Hold := { holder := none, waiting := false }

/-- R45, "Power-on reset". -/
def FigureTable.reset : FigureTable :=
  { own := [], entries := [], permit := false, hold := Hold.clear, changeCount := 0, postResult := none }

/-- R72, "Power-on reset". -/
def BalanceEngine.reset : BalanceEngine := { records := [], queue := [], computing := none, seen := [] }

/-- R105, "Power-on reset". -/
def Lau.reset : Lau :=
  { line := .off, quietCount := 0, claimWord := 0, ownClaim := false, pointer := none, mute := false, clashRun := 0,
    failureRun := 0, framesSent := 0, clashes := 0, decided := false, claiming := false, lineClear := true,
    gapPassed := false, sentInRound := false }

/-- R110, R114. -/
def FrameIntake.reset : FrameIntake := { queue := [], merging := none, counters := {} }

/-- R115, "After power-on". -/
def PeerRecord.reset : PeerRecord :=
  { state := .unheard, heard := none, generation := none, baseline := none, declaredCount := 0, declaredMask := 0,
    finalised := false, accepted := 0, missing := 0, timer := none, mismatch := false }

/-- R130, "Power-on reset". -/
def Publisher.reset : Publisher :=
  { queue := [], rotation := none, presenceTimer := none, republishTimer := none, sequence := 0, generation := 0 }

/-- R155, "Power-on reset". -/
def NoticeUnit.reset : NoticeUnit :=
  { pending := [], enables := BitVec.allOnes 11, edges := List.replicate Config.parcels .worse,
    watch := List.replicate Config.watchKeys none }

/-- R166, "Power-on reset". -/
def StationPort.reset : StationPort :=
  { busy := none, last := .done, walk := none, ignoring := false, reply := [] }

/-- The node right after a power-on reset, with RESET released and no selection under way (log 5). -/
def State.reset : State :=
  { sheet := { node := .blank, sheet := none, reason := 0 }
    stu := Stu.reset
    table := FigureTable.reset
    balance := BalanceEngine.reset
    attest := []
    lau := Lau.reset
    intake := FrameIntake.reset
    peers := List.replicate Config.linkSlots PeerRecord.reset
    pub := Publisher.reset
    notices := NoticeUnit.reset
    port := StationPort.reset
    resetAsserted := false
    freeIx := 0
    pending := [] }

end Sys2Proof.Machine
end

