-- ==== Sys2Proof/Machine/Operands.lean ====
section
/-! DEFINITION. Reading and writing of the values commands and frames carry: byte order, the code tables of section 10.4
and the ranges of the owning rules. -/

namespace Sys2Proof.Machine

/-! ### Byte order (spec 00): most significant byte first -/

/-- The `width` bytes of an unsigned value. -/
def beBytes : (width : Nat) → Nat → List Byte
  | 0, _ => []
  | w + 1, n => BitVec.ofNat 8 (n / 256 ^ w) :: beBytes w n

/-- The unsigned value of some bytes. -/
def beNat (bytes : List Byte) : Nat := bytes.foldl (fun acc b => acc * 256 + b.toNat) 0

/-- The `width` bytes of a signed value in two's complement. -/
def beSigned (width : Nat) (n : Int) : List Byte := beBytes width (BitVec.ofInt (8 * width) n).toNat

/-- The signed value of two bytes. -/
def beInt16 (bytes : List Byte) : Int := (BitVec.ofNat 16 (beNat bytes)).toInt

/-- A flag byte: 1 for set, 0 for clear (R171). -/
def flagByte (b : Bool) : Byte := if b then 1 else 0

/-! ### Codes (section 10.4) -/

def Epoch.code : Epoch → Nat
  | .opening => 1 | .interim => 2 | .closing => 3

def Epoch.ofCode : Nat → Option Epoch
  | 1 => some .opening | 2 => some .interim | 3 => some .closing | _ => none

/-- An epoch that can be attested (R74, R76). -/
def Epoch.ofAttestCode : Nat → Option Epoch
  | 1 => some .opening | 3 => some .closing | _ => none

def PointKind.code : PointKind → Nat
  | .shipTank => 1 | .shoreTank => 2 | .meter => 3

def Role.code : Role → Nat
  | .empty => 0 | .ship => 1 | .shoreTanks => 2 | .shoreMeters => 3 | .survey => 4

def Role.ofCode : Nat → Option Role
  | 0 => some .empty | 1 => some .ship | 2 => some .shoreTanks | 3 => some .shoreMeters | 4 => some .survey
  | _ => none

/-- The kind of point a station of a role owns (R113, R134). -/
def Role.pointKind : Role → Option PointKind
  | .ship => some .shipTank
  | .shoreTanks => some .shoreTank
  | .shoreMeters => some .meter
  | .empty | .survey => none

def NodeState.code : NodeState → Nat
  | .blank => 0 | .loading => 1 | .loaded => 2 | .active => 3 | .final => 4

def Direction.ofCode : Nat → Option Direction
  | 0 => some .discharge | 1 => some .loading | _ => none

def AmendMode.ofCode : Nat → Option AmendMode
  | 0 => some .each | 1 => some .held | 2 => some .none | _ => Option.none

def CustodySide.ofCode : Nat → Option CustodySide
  | 0 => some .tanks | 1 => some .meters | _ => none

def Verdict.code : Verdict → Nat
  | .noBasis => 0 | .within => 1 | .marginal => 2 | .outside => 3

def ComputeStatus.code : ComputeStatus → Nat
  | .idle => 0 | .queued => 1 | .computing => 2 | .computingRedo => 3

def PeerState.code : PeerState → Nat
  | .unheard => 0 | .present => 1 | .absent => 2 | .foreign => 3

def Protection.code : Protection → Nat
  | .none => 0 | .throughOpening => 1 | .throughClosing => 2

def EdgeSelect.code : EdgeSelect → Nat
  | .worse => 0 | .better => 1 | .both => 2 | .none => 3

def EdgeSelect.ofCode : Nat → Option EdgeSelect
  | 0 => some .worse | 1 => some .better | 2 => some .both | 3 => some .none | _ => Option.none

def ResultCode.code : ResultCode → Nat
  | .done => 0x00 | .accepted => 0x01 | .busy => 0x02 | .state => 0x03 | .unknown => 0x04 | .short => 0x05
  | .range => 0x06 | .noPoint => 0x07 | .noParcel => 0x08 | .withdrawn => 0x09 | .order => 0x0A | .closed => 0x0B
  | .isProtected => 0x0C | .noPermit => 0x0D | .revisionLimit => 0x0E | .incomplete => 0x0F | .sheetInvalid => 0x10
  | .duplicate => 0x11 | .full => 0x12 | .notFound => 0x13 | .finalised => 0x14

/-- The kind numbers of R145. -/
def NoticeKind.number : NoticeKind → Nat
  | .verdictWorse => 0 | .verdictBetter => 1 | .viewDiverge => 2 | .peerAbsent => 3 | .peerReturn => 4
  | .sheetMismatch => 5 | .computeMismatch => 6 | .tableFull => 7 | .limit => 8 | .watch => 9 | .linkFault => 10

def NoticeKind.ofNumber : Nat → Option NoticeKind
  | 0 => some .verdictWorse | 1 => some .verdictBetter | 2 => some .viewDiverge | 3 => some .peerAbsent
  | 4 => some .peerReturn | 5 => some .sheetMismatch | 6 => some .computeMismatch | 7 => some .tableFull
  | 8 => some .limit | 9 => some .watch | 10 => some .linkFault | _ => none

/-- The presentation priorities of R145; 1 is presented first. -/
def NoticeKind.priority : NoticeKind → Nat
  | .linkFault => 1 | .sheetMismatch => 2 | .viewDiverge => 3 | .verdictWorse => 4 | .computeMismatch => 5
  | .peerAbsent => 6 | .tableFull => 7 | .limit => 8 | .watch => 9 | .verdictBetter => 10 | .peerReturn => 11

/-- The subjects a kind can have (R145). -/
def NoticeKind.subjectOk (k : NoticeKind) (subject : Nat) : Bool :=
  match k with
  | .linkFault => subject ≤ 2
  | .tableFull => subject = 0
  | .sheetMismatch | .computeMismatch | .peerAbsent | .peerReturn | .watch => subject ≤ 15
  | .viewDiverge | .verdictWorse | .verdictBetter | .limit => 1 ≤ subject && subject ≤ 8

/-- The request code of the operation in flight, for STATUS (R163). -/
def LongOp.code : LongOp → Nat
  | .post _ => 0x20 | .withdraw _ => 0x23 | .attest _ _ => 0x24 | .finalise => 0x25 | .restart => 0x26
  | .linkReset => 0x27 | .sheetEnd => 0x14

/-! ### Ranges -/

def inRange (lo hi n : Nat) : Bool := lo ≤ n && n ≤ hi

def parcelInRange (p : Nat) : Bool := inRange 1 8 p
def slotInRange (s : Nat) : Bool := s ≤ 15
def pointInRange (k : Nat) : Bool := k ≤ 23

/-- The raw figures of an observation lie in the ranges of R1 for the kind of point (R2). -/
def RawFigures.inRangeFor (kind : PointKind) (r : RawFigures) : Bool :=
  r.quantity ≤ 4000000000 && r.water ≤ 4000000000 && -4000 ≤ r.temperature && r.temperature ≤ 15000
    && (decide (kind ≠ .meter) || r.water = 0)

/-- The meter factor fits the kind of point (R2). -/
def meterFactorOk (kind : PointKind) (factor : Nat) : Bool :=
  match kind with
  | .meter => inRange 90000 110000 factor
  | .shipTank | .shoreTank => factor = 0

/-- Every header field lies in its range (R131). -/
def Header.inRange (h : Header) : Bool :=
  1 ≤ h.number && slotInRange h.ownSlot && Machine.inRange 20 300 h.silence && Machine.inRange 1 60 h.republish

/-- Every field of a parcel definition lies in its range, the outer band not below the inner (R133). -/
def ParcelDef.inRange (p : ParcelDef) : Bool :=
  parcelInRange p.number && -1000 ≤ p.tRef && p.tRef ≤ 4000 && p.a ≤ 3000 && p.b ≤ 2000
    && Machine.inRange 5000 11000 p.d && Machine.inRange 95000 105000 p.vef && p.inner ≤ 5000 && p.outer ≤ 5000
    && p.inner ≤ p.outer

/-- A point definition is accepted (R135): its factor is settled against the role at SHEET END. -/
def PointDef.inRange (p : PointDef) : Bool :=
  pointInRange p.number && parcelInRange p.parcel
    && (p.meterFactor = 0 || Machine.inRange 90000 110000 p.meterFactor)

/-! ### Observation slots -/

def Slots.get {α : Type} (s : Slots α) : Epoch → Option α
  | .opening => s.opening
  | .interim => s.interim
  | .closing => s.closing

def Slots.set {α : Type} (s : Slots α) (e : Epoch) (o : Option α) : Slots α :=
  match e with
  | .opening => { s with opening := o }
  | .interim => { s with interim := o }
  | .closing => { s with closing := o }

/-- The epochs in the order OPENING, INTERIM, CLOSING (R108). -/
def Epoch.inOrder : List Epoch := [.opening, .interim, .closing]

/-- The held observations in epoch order. -/
def Slots.held {α : Type} (s : Slots α) : List α := Epoch.inOrder.filterMap s.get

/-- The slot mask: bit 0 OPENING, bit 1 INTERIM, bit 2 CLOSING. Section 10.1 gives these bits to the block mask of a FIGURE
body; that the slot mask of a record in a reply (R171) has the same ones is log 37 (DEDUCED). -/
def Slots.mask {α : Type} (s : Slots α) : Nat :=
  (if s.opening.isSome then 1 else 0) + (if s.interim.isSome then 2 else 0) + (if s.closing.isSome then 4 else 0)

end Sys2Proof.Machine
end

