-- ==== Sys2Proof/Machine/Flags.lean ====
section
/-! DEFINITION. Sets and flags: qualifier sets and their masks (R12, R49, section 10.4), sets of link slots (R74, R92),
the parcel mask (section 10.1), and the NOTICE output (R147). -/

namespace Sys2Proof.Machine

/-! ### Qualifiers -/

def ObsQuals.isEmpty (q : ObsQuals) : Bool :=
  !(q.waterClamp || q.dtClamp || q.vcfClamp || q.gsvSat || q.massSat)

/-- Bits 0 to 4 (section 10.4). -/
def ObsQuals.mask (q : ObsQuals) : Nat :=
  (if q.waterClamp then 1 else 0) + (if q.dtClamp then 2 else 0) + (if q.vcfClamp then 4 else 0)
    + (if q.gsvSat then 8 else 0) + (if q.massSat then 16 else 0)

/-- A received qualifier set; `none` when it names a qualifier other than the five (R2, R168). -/
def ObsQuals.ofMask (m : Nat) : Option ObsQuals :=
  if m < 32 then
    some { waterClamp := m.testBit 0, dtClamp := m.testBit 1, vcfClamp := m.testBit 2, gsvSat := m.testBit 3,
           massSat := m.testBit 4 }
  else none

/-- Bits 8 to 12 (section 10.4). -/
def ParcelQuals.mask (q : ParcelQuals) : Nat :=
  (if q.isPartial then 256 else 0) + (if q.stale then 512 else 0) + (if q.limited then 1024 else 0)
    + (if q.closed then 2048 else 0) + (if q.definitive then 4096 else 0)

/-! ### Sets of link slots -/

def slotBit (slot : Nat) : BitVec 16 := BitVec.ofNat 16 (2 ^ slot)

def slotIn (set : BitVec 16) (slot : Nat) : Bool := set.getLsbD slot

def slotAdd (set : BitVec 16) (slot : Nat) : BitVec 16 := set ||| slotBit slot

def slotDrop (set : BitVec 16) (slot : Nat) : BitVec 16 := set &&& ~~~ slotBit slot

/-- The lowest slot of a set at or above a bound (R93, R94, R96). -/
def lowestFrom (set : BitVec 16) (bound : Nat) : Option Nat :=
  (List.range 16).find? (fun i => decide (bound ≤ i) && slotIn set i)

/-! ### The parcel mask: bit p − 1 for parcel p -/

def parcelIn (mask : BitVec 8) (p : Nat) : Bool := decide (1 ≤ p) && mask.getLsbD (p - 1)

def parcelMask (ps : List Nat) : BitVec 8 := ps.foldl (fun m p => m ||| BitVec.ofNat 8 (2 ^ (p - 1))) 0

/-! ### Notices -/

def NoticeUnit.enabled (n : NoticeUnit) (k : NoticeKind) : Bool := n.enables.getLsbD k.number

/-- The NOTICE output is pulled low (R147); it is released while RESET is asserted. -/
def State.noticeLow (s : State) : Bool :=
  !s.resetAsserted && s.notices.pending.any (fun n => s.notices.enabled n.kind)

/-! ### The line: dominant is `true` -/

/-- The level of bit `i` of a frame (R89): each byte is a dominant start bit, eight data bits most significant first with
a 1 recessive, and a recessive stop bit. -/
def frameBit (frame : List Byte) (i : Nat) : Bool :=
  match i % 10 with
  | 0 => true
  | 9 => false
  | k => !((frame.getD (i / 10) 0).getLsbD (8 - k))

/-- The last stop bit of a frame has begun: all its bits before that one have been driven (R97, R98, R103). -/
def lastStopBit (frame : List Byte) (driven : Nat) : Bool := decide (10 * frame.length ≤ driven + 1)

/-- LDE: the transceiver is driven (R89). -/
def Lau.lde (l : Lau) : Bool :=
  l.claiming || match l.line with
    | .round (.sending _ _) | .round .clashMark => true
    | _ => false

/-- LTX: the level presented to the transceiver (R89). While LDE is released no level is to be driven, and LTX is recessive
(log 39, DESIGN CHOICE). -/
def Lau.ltx (l : Lau) : Bool :=
  l.claiming || match l.line with
    | .round (.sending frame driven) => frameBit frame driven
    | .round .clashMark => true
    | _ => false

/-- The data bits at the end of a byte that are recessive (1). -/
def trailingOnes (b : Byte) : Nat :=
  ((List.range 8).takeWhile (fun i => b.getLsbD i)).length

/-- The recessive bit times at the end of a frame: the last stop bit and the 1 bits before it (R89, R91). -/
def trailingRecessive (frame : List Byte) : Nat :=
  match frame.getLast? with
  | some b => trailingOnes b + 1
  | none => 0

end Sys2Proof.Machine
end

