-- ==== Sys2Proof/Machine/Frames.lean ====
section
/-! DEFINITION. Link frames: the check (R109, R169), the layout of a frame and of the four bodies (sections 10.1, R107,
R108), and the form check (R112). -/

namespace Sys2Proof.Machine

/-! ### The check -/

/-- One step of the register (R169). -/
def crcStep (r : BitVec 16) : BitVec 16 := if r.msb then (r <<< 1) ^^^ 0x8005#16 else r <<< 1

/-- One byte into the register, stepped eight times (R169). -/
def crcByte (r : BitVec 16) (b : Byte) : BitVec 16 :=
  Nat.repeat crcStep 8 (r ^^^ (b.setWidth 16 <<< 8))

/-- The check over the bytes between the start byte and the check (R109, R169). -/
def crc (bytes : List Byte) : BitVec 16 := bytes.foldl crcByte 0xFFFF#16

/-! ### The frame (section 10.1) -/

/-- The bytes the check covers: kind and source, generation, sequence, body length, body. -/
def Frame.checked (f : Frame) : List Byte :=
  [f.kind ++ f.source, f.generation] ++ beBytes 2 f.sequence.toNat ++ [BitVec.ofNat 8 f.body.length] ++ f.body

/-- The bytes of a frame on the line: start byte, header, body, check (R107, R169). -/
def Frame.bytes (f : Frame) : List Byte := Config.startByte :: f.checked ++ beBytes 2 (crc f.checked).toNat

/-- A received frame, `none` when the reception fails the check (R95, R168, R169): the first byte is not the start byte,
the body length exceeds the longest body or does not account for the bytes, or the check differs. -/
def Frame.ofBytes (bytes : List Byte) : Option Frame :=
  match bytes with
  | start :: ks :: gen :: s1 :: s0 :: len :: rest =>
    if start = Config.startByte ∧ len.toNat ≤ Config.longestBody ∧ rest.length = len.toNat + 2
        ∧ beNat (rest.drop len.toNat) = (crc (ks :: gen :: s1 :: s0 :: len :: rest.take len.toNat)).toNat then
      some { kind := ks.extractLsb' 4 4, source := ks.extractLsb' 0 4, generation := gen, sequence := s1 ++ s0,
             body := rest.take len.toNat }
    else none
  | _ => none

/-! ### The bodies -/

/-- A PRESENCE body that passes the form check (R108, R112). -/
structure PresenceBody where
  role : Role
  final : Bool
  number : Nat
  revision : Nat
  count : Nat
  mask : BitVec 8
deriving DecidableEq, Repr

/-- One observation block as carried (section 10.1). -/
structure BlockBody where
  revision : Nat
  raw : RawFigures
  sourceGsv : Nat
  sourceMask : Nat
deriving DecidableEq, Repr

/-- A frame's body after the form check; codes that only the content check judges stay numbers. -/
inductive Body where
  | presence (p : PresenceBody)
  | figure (point kind parcel meterFactor : Nat) (blocks : List (Epoch × BlockBody))
  | withdraw (point kind parcel : Nat)
  | attest (parcel epoch : Nat) (theirs : Summary)
deriving DecidableEq, Repr

/-- The epochs a block mask names (section 10.1). -/
def maskEpochs (mask : Nat) : List Epoch :=
  Epoch.inOrder.filter (fun e => mask.testBit (e.code - 1))

/-- The bytes from `offset`, `n` of them. -/
def slice (bytes : List Byte) (offset n : Nat) : List Byte := (bytes.drop offset).take n

def parseBlock (bytes : List Byte) : BlockBody :=
  { revision := beNat (slice bytes 0 2)
    raw := { quantity := beNat (slice bytes 2 4), water := beNat (slice bytes 6 4),
             temperature := beInt16 (slice bytes 10 2) }
    sourceGsv := beNat (slice bytes 12 4)
    sourceMask := beNat (slice bytes 16 2) }

/-- The blocks of a FIGURE body, in mask order, 18 bytes each. -/
def parseBlocks : List Epoch → List Byte → List (Epoch × BlockBody)
  | [], _ => []
  | e :: es, bytes => (e, parseBlock bytes) :: parseBlocks es (bytes.drop 18)

def parsePresence (b : List Byte) : Option Body :=
  if b.length = 10 then
    match Role.ofCode (beNat (slice b 0 1)) with
    | none | some .empty => none
    | some role =>
      let state := beNat (slice b 1 1)
      let count := beNat (slice b 8 1)
      if (state = 3 ∨ state = 4) ∧ count ≤ 24 then
        some (.presence { role := role, final := decide (state = 4), number := beNat (slice b 2 4),
                          revision := beNat (slice b 6 2), count := count,
                          mask := BitVec.ofNat 8 (beNat (slice b 9 1)) })
      else none
  else none

def parseFigure (b : List Byte) : Option Body :=
  let mask := beNat (slice b 3 1)
  if 7 ≤ b.length ∧ mask < 8 ∧ b.length = 7 + 18 * (maskEpochs mask).length then
    some (.figure (beNat (slice b 0 1)) (beNat (slice b 1 1)) (beNat (slice b 2 1)) (beNat (slice b 4 3))
      (parseBlocks (maskEpochs mask) (b.drop 7)))
  else none

def parseWithdraw (b : List Byte) : Option Body :=
  if b.length = 3 then
    some (.withdraw (beNat (slice b 0 1)) (beNat (slice b 1 1)) (beNat (slice b 2 1)))
  else none

def parseAttest (b : List Byte) : Option Body :=
  if b.length = 10 then
    some (.attest (beNat (slice b 0 1)) (beNat (slice b 1 1)) { count := beNat (slice b 2 2), sum := beNat (slice b 4 6) })
  else none

/-- The form check (R112): `none` when the frame is MALFORMED by its form. -/
def Frame.form (f : Frame) : Option Body :=
  match f.kind.toNat with
  | 1 => parsePresence f.body
  | 2 => parseFigure f.body
  | 3 => parseWithdraw f.body
  | 4 => parseAttest f.body
  | _ => none

/-! ### Building bodies (R108, R126) -/

def presenceBytes (role : Role) (final : Bool) (number revision count : Nat) (mask : BitVec 8) : List Byte :=
  beBytes 1 role.code ++ beBytes 1 (if final then 4 else 3) ++ beBytes 4 number ++ beBytes 2 revision
    ++ beBytes 1 count ++ [mask]

def blockBytes (o : Observation) : List Byte :=
  beBytes 2 o.revision ++ beBytes 4 o.raw.quantity ++ beBytes 4 o.raw.water ++ beSigned 2 o.raw.temperature
    ++ beBytes 4 o.std.gsv ++ beBytes 2 o.std.quals.mask

def figureBytes (p : OwnPoint) : List Byte :=
  beBytes 1 p.number ++ beBytes 1 p.kind.code ++ beBytes 1 p.parcel ++ beBytes 1 p.slots.mask
    ++ beBytes 3 p.meterFactor ++ p.slots.held.flatMap blockBytes

def withdrawBytes (p : OwnPoint) : List Byte := beBytes 1 p.number ++ beBytes 1 p.kind.code ++ beBytes 1 p.parcel

def attestBytes (parcel : Nat) (epoch : Epoch) (sum : Summary) : List Byte :=
  beBytes 1 parcel ++ beBytes 1 epoch.code ++ beBytes 2 sum.count ++ beBytes 6 sum.sum

end Sys2Proof.Machine
end

