-- ==== Sys2Proof/Machine/Standardise.lean ====
section
/-! DEFINITION. The five stages of standardisation (section 1.3). -/

namespace Sys2Proof.Machine

/-- Division of a non-negative value rounded half up (spec 00, "Rounding"). -/
def divHalfUp (n d : Nat) : Nat := (n + d / 2) / d

/-- Stage 1: the gross observed volume, and WATER_CLAMP (R4, R5). -/
def stageGov (kind : PointKind) (meterFactor : Nat) (r : RawFigures) : Nat × Bool :=
  match kind with
  | .meter => (divHalfUp (r.quantity * meterFactor) 100000, false)
  | .shipTank | .shoreTank => (r.quantity - r.water, decide (r.quantity < r.water))

/-- Stage 2: the temperature difference, and DT_CLAMP (R6). -/
def stageDelta (tRef temperature : Int) : Int × Bool :=
  let dt := temperature - tRef
  (max (-10000) (min 10000 dt), decide (dt < -10000 ∨ 10000 < dt))

/-- Stage 3's exact integer N = 10¹³ − L·10⁵ + Q (R7). -/
def stageN (a b : Nat) (dt : Int) : Int := 10000000000000 - (a * dt) * 100000 + b * dt * dt

/-- Stage 3: the volume correction factor, and VCF_CLAMP (R8). -/
def stageVcf (n : Int) : Nat × Bool :=
  let v := ((n + 50000000) / 100000000).toNat
  (max 80000 (min 120000 v), decide (v < 80000 ∨ 120000 < v))

/-- Stage 4: the gross standard volume, and GSV_SAT (R9). -/
def stageGsv (gov vcf : Nat) : Nat × Bool :=
  let g := divHalfUp (gov * vcf) 100000
  (min max32 g, decide (max32 < g))

/-- Stage 5: the mass, and MASS_SAT (R10). -/
def stageMass (gsv d : Nat) : Nat × Bool :=
  let m := divHalfUp (gsv * d) 10000
  (min max32 m, decide (max32 < m))

/-- The five stages in order, with the qualifiers of the stages that limited their result (R12). -/
def standardise (p : ParcelDef) (kind : PointKind) (meterFactor : Nat) (r : RawFigures) : Standard :=
  let gov := stageGov kind meterFactor r
  let dt := stageDelta p.tRef r.temperature
  let vcf := stageVcf (stageN p.a p.b dt.1)
  let gsv := stageGsv gov.1 vcf.1
  let mass := stageMass gsv.1 p.d
  { vcf := vcf.1, gsv := gsv.1, mass := mass.1
    quals := { waterClamp := gov.2, dtClamp := dt.2, vcfClamp := vcf.2, gsvSat := gsv.2, massSat := mass.2 } }

/-- One observation served (R3, R15): the standard values with this node's constants, and whether the GSV differs from a
peer block's source GSV. -/
def serveItem (p : ParcelDef) (i : StuItem) : StuResult :=
  let std := standardise p i.kind i.meterFactor i.raw
  { item := i, std := std
    mismatch := match i.source with
      | some (_, src) => decide (std.gsv ≠ src.gsv)
      | none => false }

end Sys2Proof.Machine
end

