-- ==== Sys2Proof/Machine/Ops.lean ====
section
/-! DEFINITION. The named operations over the state, shared by the meanings: each is the effect of one rule on one block,
and a wrapper that applies it to the node. 95_what_each_step_holds.md names most of them. -/

namespace Sys2Proof.Machine

/-! ### Reading the sheet and the node state -/

def State.header? (s : State) : Option Header := s.sheet.sheet.map (·.header)

/-- The node's own slot, from its sheet (R131). Read only where a sheet is held. -/
def State.ownSlot (s : State) : Nat := (s.header?.map (·.ownSlot)).getD 0

/-- The node's amend mode (R32). Read only where a sheet is held. -/
def State.amendMode (s : State) : AmendMode := (s.header?.map (·.amendMode)).getD .none

def State.roster (s : State) : List Role := (s.sheet.sheet.map (·.roster)).getD []

def State.rosterRole (s : State) (slot : Nat) : Role := s.roster.getD slot .empty

def State.parcelDef? (s : State) (p : Nat) : Option ParcelDef :=
  s.sheet.sheet.bind (fun sh => sh.parcels.find? (fun d => d.number = p))

def State.parcelDefined (s : State) (p : Nat) : Bool := (s.parcelDef? p).isSome

/-- The node takes part in the transfer: ACTIVE or FINAL (R140). -/
def State.running (s : State) : Bool := decide (s.sheet.node = .active ∨ s.sheet.node = .final)

/-- The full value of a silence timer, in bit times (R119). -/
def State.silenceBits (s : State) : Nat := (s.header?.map (·.silence)).getD 0 * Config.bitsPerSecond

/-- The full value of the republish timer, in bit times (R129). -/
def State.republishBits (s : State) : Nat := (s.header?.map (·.republish)).getD 0 * Config.bitsPerSecond

/-! ### Notice Unit: raising (R144) -/

/-- Whether an entry of kind `k` and subject `j` is presented before notice `n` (R148, R150). -/
def presentedBefore (k : NoticeKind) (j : Nat) (n : Notice) : Bool :=
  decide (k.priority < n.kind.priority ∨ (k.priority = n.kind.priority ∧ j < n.subject))

def isNotice (k : NoticeKind) (j : Nat) (n : Notice) : Bool := decide (n.kind = k ∧ n.subject = j)

/-- A new entry at its place in the presentation order. -/
def insertNotice (k : NoticeKind) (j : Nat) : List Notice → List Notice
  | [] => [{ kind := k, subject := j, count := 0 }]
  | n :: ns =>
    if presentedBefore k j n then { kind := k, subject := j, count := 0 } :: n :: ns else n :: insertNotice k j ns

/-- NOTICE_RAISE (R144): the existing entry's repeat count is raised, saturating at 255, or a new entry is made. -/
def raisePending (k : NoticeKind) (j : Nat) (pending : List Notice) : List Notice :=
  if pending.any (isNotice k j) then
    pending.map (fun n => if isNotice k j n then { n with count := min 255 (n.count + 1) } else n)
  else insertNotice k j pending

def NoticeUnit.raise (k : NoticeKind) (j : Nat) (n : NoticeUnit) : NoticeUnit :=
  { n with pending := raisePending k j n.pending }

def State.raise (k : NoticeKind) (j : Nat) (s : State) : State := { s with notices := s.notices.raise k j }

/-- Raise when a condition holds. -/
def State.raiseIf (c : Bool) (k : NoticeKind) (j : Nat) (s : State) : State := if c then s.raise k j else s

/-- The watch index of a key, if it is watched (R152). -/
def NoticeUnit.watchIndex (n : NoticeUnit) (key : WatchKey) : Option Nat :=
  n.watch.findIdx? (fun k => decide (k = some key))

/-- The edge select of a parcel (R71, R151). -/
def NoticeUnit.edge (n : NoticeUnit) (p : Nat) : EdgeSelect := n.edges.getD (p - 1) .worse

/-- WATCH_RAISE (R154): WATCH at the key's watch index, if the key is watched. -/
def NoticeUnit.raiseWatch (key : WatchKey) (n : NoticeUnit) : NoticeUnit :=
  match n.watchIndex key with
  | some i => n.raise .watch i
  | none => n

def State.raiseWatch (slot point : Nat) (s : State) : State :=
  { s with notices := s.notices.raiseWatch { slot := slot, point := point } }

/-! ### Balance Engine: recompute requests (R64, R65) -/

def State.reading (s : State) : Reading :=
  { own := s.table.own, entries := s.table.entries, peers := s.peers, node := s.sheet.node }

def BalanceEngine.status? (b : BalanceEngine) (p : Nat) : Option ComputeStatus :=
  (b.records.find? (fun r => r.parcel = p)).map (·.status)

def BalanceEngine.modify (b : BalanceEngine) (p : Nat) (f : ParcelRecord → ParcelRecord) : BalanceEngine :=
  { b with records := b.records.map (fun r => if r.parcel = p then f r else r) }

def BalanceEngine.setStatus (b : BalanceEngine) (p : Nat) (st : ComputeStatus) : BalanceEngine :=
  b.modify p (fun r => { r with status := st })

/-- Keep, for a computation under way, what the table, the peers and the node state read as from now on (log 11). -/
def BalanceEngine.note (now : Reading) (b : BalanceEngine) : BalanceEngine :=
  if b.computing.isSome ∧ b.seen.getLast? ≠ some now then { b with seen := b.seen ++ [now] } else b

/-- RECOMPUTE_REQUEST (R65) for one parcel; `now` is what the table, the peers and the node state read as after the
change. A request for another parcel than the one being computed is noted too: the change may have moved the count of a
station's entries, which is over all parcels (R59; log 30). -/
def BalanceEngine.request (now : Reading) (b : BalanceEngine) (p : Nat) : BalanceEngine :=
  let b := b.note now
  match b.status? p with
  | some .idle => { b.setStatus p .queued with queue := b.queue ++ [p] }
  | some .computing => b.setStatus p .computingRedo
  | some .computingRedo | some .queued | none => b

def State.requestAll (ps : List Nat) (s : State) : State :=
  { s with balance := ps.foldl (BalanceEngine.request s.reading) s.balance }

def State.request (p : Nat) (s : State) : State := s.requestAll [p]

/-- The parcels of the sheet in ascending number (R64). -/
def State.sheetParcels (s : State) : List Nat := s.balance.records.map (·.parcel)

/-! ### Attestation Unit: marks and memberships -/

/-- CHANGED_SINCE_MARK (R85). -/
def markAttest (p : Nat) (e : Epoch) (rs : List AttestRecord) : List AttestRecord :=
  rs.map (fun r => if r.parcel = p ∧ r.epoch = e then { r with changedSince := true } else r)

def State.mark (p : Nat) (e : Epoch) (s : State) : State := { s with attest := markAttest p e s.attest }

/-- A mark for each of a record's attested epochs that was held (R33, R42, R43). -/
def State.markIf (c : Bool) (p : Nat) (e : Epoch) (s : State) : State := if c then s.mark p e else s

/-- MEMBERSHIP_REMOVAL (R86): the station leaves both sets of every attest record. -/
def dropMember (slot : Nat) (rs : List AttestRecord) : List AttestRecord :=
  rs.map (fun r => { r with matching := slotDrop r.matching slot, diverging := slotDrop r.diverging slot })

/-! ### Publisher: subjects (R124, R125) -/

def Publisher.hasJob (p : Publisher) (sub : Subject) : Bool := p.queue.any (fun j => j.subject = sub)

def newJob (sub : Subject) : Job := { subject := sub, inFlight := false, resend := false }

/-- PUBLISHER_SUBJECT_GIVEN by START, FINALISE, a POST, a withdrawal or an ATTEST (R124, R125): a new job at the tail, or
the resend mark on a job in flight. -/
def Publisher.give (sub : Subject) (p : Publisher) : Publisher :=
  if p.hasJob sub then
    { p with queue := p.queue.map (fun j => if j.subject = sub ∧ j.inFlight then { j with resend := true } else j) }
  else { p with queue := p.queue ++ [newJob sub] }

/-- A subject given by a timer: nothing where a job for it is queued or in flight (R125, R129). -/
def Publisher.giveByTimer (sub : Subject) (p : Publisher) : Publisher :=
  if p.hasJob sub then p else { p with queue := p.queue ++ [newJob sub] }

def State.give (sub : Subject) (s : State) : State := { s with pub := s.pub.give sub }

/-- An own point with something to publish: withdrawn, or holding an observation (R126, R129). -/
def OwnPoint.eligible (p : OwnPoint) : Bool := p.withdrawn || !p.slots.held.isEmpty

/-- The eligible subjects in rotation order (R129). -/
def State.eligible (s : State) : List Subject :=
  (s.table.own.filter OwnPoint.eligible).map (fun p => Subject.point p.number)
    ++ (s.attest.filter (fun r => r.summary.isSome)).map (fun r => Subject.attest r.parcel r.epoch)

/-- SEND_ENDING, completed (R127): the job in flight is removed, or moved to the tail if it has the resend mark. -/
def Publisher.completed (p : Publisher) : Publisher :=
  match p.queue.find? (·.inFlight) with
  | none => p
  | some j =>
    { p with queue := p.queue.filter (fun k => !k.inFlight) ++ (if j.resend then [newJob j.subject] else []) }

/-- SEND_ENDING, clash (R127): the job stays with its marks cleared. -/
def Publisher.clashed (p : Publisher) : Publisher :=
  { p with queue := p.queue.map (fun j => if j.inFlight then { j with inFlight := false, resend := false } else j) }

/-- TRANSMIT_QUEUE_REFILL (R130): PRESENCE, then every eligible subject in rotation order. -/
def State.refilled (s : State) : List Job := newJob .presence :: s.eligible.map newJob

/-! ### Figure Table -/

def FigureTable.point? (t : FigureTable) (k : Nat) : Option OwnPoint := t.own.find? (fun p => p.number = k)

def FigureTable.modifyPoint (t : FigureTable) (k : Nat) (f : OwnPoint → OwnPoint) : FigureTable :=
  { t with own := t.own.map (fun p => if p.number = k then f p else p) }

def isEntry (slot point : Nat) (e : PeerEntry) : Bool := decide (e.slot = slot ∧ e.point = point)

def FigureTable.entry? (t : FigureTable) (slot point : Nat) : Option PeerEntry := t.entries.find? (isEntry slot point)

/-- Raise the table change count by `n` changes, wrapping (R26). -/
def FigureTable.changed (t : FigureTable) (n : Nat) : FigureTable :=
  { t with changeCount := t.changeCount + BitVec.ofNat 32 n }

/-- Key order of peer entries: the slot first (R25). -/
def keyBefore (s1 p1 s2 p2 : Nat) : Bool := decide (s1 < s2 ∨ (s1 = s2 ∧ p1 < p2))

/-- Put an entry at its place in table order, over an entry of the same key (R24, R25). -/
def insertEntry (e : PeerEntry) : List PeerEntry → List PeerEntry
  | [] => [e]
  | x :: xs =>
    if isEntry e.slot e.point x then e :: xs
    else if keyBefore e.slot e.point x.slot x.point then e :: x :: xs
    else x :: insertEntry e xs

/-- No party holds the intake hold and none waits for it: CLEAR (R27). -/
def Hold.isClear (h : Hold) : Bool := h.holder.isNone && !h.waiting

/-- HOLD_RELEASE (R27): CLEAR, or SET for the Attestation Unit where it waits. -/
def Hold.release (h : Hold) : Hold :=
  if h.waiting then { holder := some .attestation, waiting := false } else Hold.clear

/-- The Attestation Unit's request (R27): SET at once unless a frame is being merged; then it waits. -/
def Hold.requestByAttest (h : Hold) (merging : Bool) : Hold :=
  if merging then { h with waiting := true } else { holder := some .attestation, waiting := false }

/-- The epochs that are attested, for changed-since marks. -/
def attestedEpochs : List Epoch := [.opening, .closing]

/-- The changed-since marks for the attested epochs among `es` (R31, R41, R85). -/
def State.markEpochs (p : Nat) (es : List Epoch) (s : State) : State :=
  { s with attest := (attestedEpochs.filter (· ∈ es)).foldl (fun rs e => markAttest p e rs) s.attest }

/-- The epochs a record holds. -/
def heldEpochs {α : Type} (sl : Slots α) : List Epoch := Epoch.inOrder.filter (fun e => (sl.get e).isSome)

/-- Parcel numbers in ascending order. -/
def parcelNumbers : List Nat := [1, 2, 3, 4, 5, 6, 7, 8]

/-- Marks for every attested epoch held by any of some removed entries (R43). -/
def markRemoved (gone : List PeerEntry) (rs : List AttestRecord) : List AttestRecord :=
  rs.map (fun r =>
    if gone.any (fun e => decide (e.parcel = r.parcel ∧ (e.slots.get r.epoch).isSome)) ∧ r.epoch ∈ attestedEpochs
    then { r with changedSince := true } else r)

/-- Remove the entries of a list from the table as one change, with the recompute requests, WATCH raises and
changed-since marks (R42, R43). An empty list changes nothing. -/
def State.removeEntries (gone : List PeerEntry) (s : State) : State :=
  if gone.isEmpty then s
  else
    let table := { s.table.changed 1 with
      entries := s.table.entries.filter (fun e => !gone.any (fun g => isEntry g.slot g.point e)) }
    let s := { s with table := table, attest := markRemoved gone s.attest }
    let s := s.requestAll (parcelNumbers.filter (fun p => gone.any (fun e => decide (e.parcel = p))))
    { s with notices := gone.foldl (fun n e => n.raiseWatch { slot := e.slot, point := e.point }) s.notices }

/-- PEER_ENTRIES_REMOVAL (R43). -/
def State.removeStation (slot : Nat) (s : State) : State :=
  s.removeEntries (s.table.entries.filter (fun e => e.slot = slot))

/-! ### Peer Registry -/

def State.peer (s : State) (slot : Nat) : PeerRecord := s.peers.getD slot PeerRecord.reset

/-- The fields of a peer record whose change requests a recompute of every parcel (R64, R115). -/
def PeerRecord.balanceKey (r : PeerRecord) : PeerState × Nat × BitVec 8 × Bool :=
  (r.state, r.declaredCount, r.declaredMask, r.finalised)

/-- Write a peer record; `changed` requests a recompute of every parcel (R64). -/
def State.writePeer (slot : Nat) (changed : Bool) (r : PeerRecord) (s : State) : State :=
  let s := { s with peers := s.peers.set slot r }
  if changed then s.requestAll s.sheetParcels else s

/-- Write a peer record; a change of its state, declared count, declared mask or finalised flag requests a recompute of
every parcel (R64). -/
def State.setPeer (slot : Nat) (r : PeerRecord) (s : State) : State :=
  s.writePeer slot (decide ((s.peer slot).balanceKey ≠ r.balanceKey)) r

def State.updatePeer (slot : Nat) (f : PeerRecord → PeerRecord) (s : State) : State := s.setPeer slot (f (s.peer slot))

/-- What a generation change, a step-back and a move to FOREIGN have in common (R117, R118, R121): the station's entries
are removed and it leaves every matching and diverging set. -/
def State.dropStation (slot : Nat) (s : State) : State :=
  let s := s.removeStation slot
  { s with attest := dropMember slot s.attest }

/-- And its two flags are cleared (R117, R118, R121). -/
def PeerRecord.flagsCleared (r : PeerRecord) : PeerRecord := { r with mismatch := false, finalised := false }

/-! ### Counters -/

def State.count (f : IntakeCounters → IntakeCounters) (s : State) : State :=
  { s with intake := { s.intake with counters := f s.intake.counters } }

/-- A frame found MALFORMED (R112, R113, R37, R42). -/
def State.countMalformed (s : State) : State := s.count (fun c => { c with malformed := satAdd c.malformed 1 })

/-! ### Line Access Unit -/

/-- Enter SEEK, leaving any window or round (R93, R96, R98, R103; log 13). -/
def Lau.toSeek (l : Lau) (quiet : Nat) : Lau :=
  { l with line := .seek, quietCount := quiet, claimWord := 0, ownClaim := false, pointer := none, decided := false,
           claiming := false, lineClear := true, gapPassed := false, sentInRound := false }

/-- A new reference instant with the pointer moved (R94). -/
def Lau.newTurn (l : Lau) (pointer : Option Nat) : Lau :=
  { l with line := .round .awaiting, pointer := pointer, lineClear := true, gapPassed := false }

/-- A frame from `source` ended validly: the pointer moves to the lowest claimant above it (R96). -/
def Lau.frameEnded (l : Lau) (source : Nat) : Lau := l.newTurn (lowestFrom l.claimWord (source + 1))

/-- A failed reception (R95, R96, R99), and whether it is the sixteenth in a row. -/
def Lau.receptionFailed (l : Lau) : Lau × Bool :=
  let run := l.failureRun + 1
  let l := l.toSeek l.quietCount
  if run ≥ Config.faultRun then ({ l with failureRun := 0 }, true) else ({ l with failureRun := run }, false)

/-- A completed send at the LAU (R97). -/
def Lau.sendCompleted (l : Lau) : Lau := { l with framesSent := satAdd l.framesSent 1, clashRun := 0 }

/-! ### Station Port -/

/-- The reply of a request: its result code and, after DONE, its data (R157, R171). -/
def State.answer (code : ResultCode) (data : List Byte) (s : State) : State :=
  { s with port := { s.port with reply := BitVec.ofNat 8 code.code :: data } }

/-- A refusal, or DONE without data. -/
def State.answerCode (code : ResultCode) (s : State) : State := s.answer code []

/-- A long operation is accepted (R159). -/
def State.accept (op : LongOp) (s : State) : State :=
  { s.answerCode .accepted with
    port := { (s.answerCode .accepted).port with busy := some op, last := .busy } }

/-- A long operation completes (R159). -/
def State.complete (code : ResultCode) (s : State) : State :=
  { s with port := { s.port with busy := none, last := code } }

/-- A new selection has begun: any walk of an earlier one has ended (R165). -/
def State.newSelection (s : State) : State := { s with port := { s.port with walk := none } }

/-- A request of the list served while BUSY (R160): taken in every port state. -/
def State.serveRequest (body : State → State) (s : State) : State :=
  if s.resetAsserted || s.port.ignoring then s else body s.newSelection

/-- Any other request: refused with BUSY while a long operation is in flight (R160). -/
def State.takeRequest (body : State → State) (s : State) : State :=
  s.serveRequest (fun s => if s.port.busy.isSome then s.answerCode .busy else body s)

/-! ### Standardisation Unit -/

/-- The service of a requester's request ends and the STU becomes free: its results are stored (R18), or it is withdrawn
(R21). -/
def Stu.release (r : Requester) (u : Stu) : Stu :=
  { u with inService := u.inService.filter (fun v => decide (v.requester ≠ r)) }

/-- The results of an STU request handed to the Figure Table (R18). -/
def State.handResults (r : Requester) (results : List StuResult) (s : State) : State :=
  match r with
  | .port => { s with table := { s.table with postResult := results.head? } }
  | .intake =>
    match s.intake.merging with
    | some (.figure slot point kind parcel factor _) =>
      { s with intake := { s.intake with merging := some (.figure slot point kind parcel factor (some results)) } }
    | _ => s

end Sys2Proof.Machine
end

