-- ==== Sys2Proof/Machine/Sheet.lean ====
section
/-! DEFINITION. The sheet requests, START, and the resets of the whole node (chapter 7). -/

namespace Sys2Proof.Machine

/-- Put a definition at its place in ascending number, over an earlier one of the same number (R133, R135). -/
def upsert {α : Type} (number : α → Nat) (x : α) : List α → List α
  | [] => [x]
  | y :: ys =>
    if number x = number y then x :: ys
    else if number x < number y then x :: y :: ys
    else y :: upsert number x ys

/-! ### Resets -/

/-- POWER_ON_RESET (R142, R161): every block at its power-on value; the commands that wait, and the counter of free values,
are the model's own and stay. -/
def State.powerOn (byInput : Bool) (s : State) : State :=
  { State.reset with resetAsserted := byInput, freeIx := s.freeIx, pending := s.pending }

def execPowerOnReset (byInput : Bool) (s : State) : Host.Outcome State Fault Refusal := .next (s.powerOn byInput)

/-- RESET_RELEASED (R142, R161): the node begins taking requests; a selection under way is ignored until SEL next goes
high. -/
def State.resetReleased (selLow : Bool) (s : State) : State :=
  if s.resetAsserted then { s with resetAsserted := false, port := { s.port with ignoring := selLow } } else s

def execResetReleased (selLow : Bool) (s : State) : Host.Outcome State Fault Refusal := .next (s.resetReleased selLow)

/-! ### Loading the sheet -/

/-- The header that the parameters of SHEET BEGIN give, if every code and range is good (R131, R170). -/
def headerOf (number : BitVec 32) (revision : BitVec 16) (ownSlot direction amendMode : Byte) (silence : BitVec 16)
    (republish : Byte) : Option Header :=
  match Direction.ofCode direction.toNat, AmendMode.ofCode amendMode.toNat with
  | some dir, some mode =>
    let h : Header :=
      { number := number.toNat, revision := revision.toNat, ownSlot := ownSlot.toNat, direction := dir,
        amendMode := mode, silence := silence.toNat, republish := republish.toNat }
    if h.inRange then some h else none
  | _, _ => none

/-- SHEET_BEGIN (R131, R132). -/
def State.sheetBegin (h : Option Header) (s : State) : State :=
  if s.running then s.answerCode .state
  else match h with
    | none => s.answerCode .range
    | some h =>
      { s.answerCode .done with
        sheet :=
          { node := .loading, reason := 0
            sheet := some { header := h, parcels := [], roster := List.replicate Config.linkSlots .empty, points := [] } } }

def execSheetBegin (number : BitVec 32) (revision : BitVec 16) (ownSlot direction amendMode : Byte)
    (silence : BitVec 16) (republish : Byte) (s : State) : Host.Outcome State Fault Refusal :=
  .next (s.takeRequest (State.sheetBegin (headerOf number revision ownSlot direction amendMode silence republish)))

/-- A definition request (R133 to R135): taken in LOADING; `change` is `none` when a field is out of range. -/
def State.define (change : Option (Sheet → Sheet)) (s : State) : State :=
  if s.sheet.node ≠ .loading then s.answerCode .state
  else match change with
    | none => s.answerCode .range
    | some f => { s.answerCode .done with sheet := { s.sheet with sheet := s.sheet.sheet.map f } }

/-- The parcel definition that the parameters of SHEET PARCEL give (R133, R170). -/
def parcelDefOf (parcel : Byte) (tRef a b d : BitVec 16) (vef : BitVec 24) (inner outer : BitVec 16) (custody : Byte) :
    Option ParcelDef :=
  match CustodySide.ofCode custody.toNat with
  | some side =>
    let p : ParcelDef :=
      { number := parcel.toNat, tRef := tRef.toInt, a := a.toNat, b := b.toNat, d := d.toNat, vef := vef.toNat,
        inner := inner.toNat, outer := outer.toNat, custody := side }
    if p.inRange then some p else none
  | none => none

/-- SHEET_PARCEL (R133). -/
def execSheetParcel (parcel : Byte) (tRef a b d : BitVec 16) (vef : BitVec 24) (inner outer : BitVec 16)
    (custody : Byte) (s : State) : Host.Outcome State Fault Refusal :=
  .next (s.takeRequest (State.define ((parcelDefOf parcel tRef a b d vef inner outer custody).map
    (fun p sh => { sh with parcels := upsert ParcelDef.number p sh.parcels }))))

/-- SHEET_ROSTER (R134). -/
def execSheetRoster (slot role : Byte) (s : State) : Host.Outcome State Fault Refusal :=
  .next (s.takeRequest (State.define
    (if slotInRange slot.toNat then
      (Role.ofCode role.toNat).map (fun r sh => { sh with roster := sh.roster.set slot.toNat r })
    else none)))

/-- SHEET_POINT (R135). -/
def execSheetPoint (point parcel : Byte) (meterFactor : BitVec 24) (s : State) : Host.Outcome State Fault Refusal :=
  .next (s.takeRequest (State.define
    (let p : PointDef := { number := point.toNat, parcel := parcel.toNat, meterFactor := meterFactor.toNat }
     if p.inRange then some (fun sh => { sh with points := upsert PointDef.number p sh.points }) else none)))

/-- SHEET_END (R136): accepted in LOADING. -/
def State.sheetEnd (s : State) : State :=
  if s.sheet.node ≠ .loading then s.answerCode .state else s.accept .sheetEnd

def execSheetEnd (s : State) : Host.Outcome State Fault Refusal := .next (s.takeRequest State.sheetEnd)

/-! ### Validation -/

/-- The eight checks of R136, in order. -/
def Sheet.checks (sh : Sheet) : List Bool :=
  let own := sh.roster.getD sh.header.ownSlot .empty
  [ !sh.parcels.isEmpty,
    decide (own ≠ .empty),
    decide (own = .survey → sh.points = []),
    decide (own ≠ .survey → sh.points ≠ []),
    sh.points.all (fun p => sh.parcels.any (fun d => d.number = p.parcel)),
    sh.points.all (fun p =>
      if own = .shoreMeters then inRange 90000 110000 p.meterFactor else decide (p.meterFactor = 0)),
    sh.roster.any (fun r => decide (r = .ship)),
    sh.roster.any (fun r => decide (r = .shoreTanks ∨ r = .shoreMeters)) ]

/-- The number of the first check that fails, 0 when all pass (R136, R137). -/
def Sheet.failedCheck (sh : Sheet) : Nat :=
  match sh.checks.findIdx? (fun ok => !ok) with
  | some i => i + 1
  | none => 0

/-- SHEET_END_COMPLETE (R137): due while a SHEET END is in flight. -/
def State.sheetEndComplete (s : State) : State :=
  match s.port.busy, s.sheet.sheet with
  | some .sheetEnd, some sh =>
    let reason := sh.failedCheck
    if reason = 0 then { s.complete .done with sheet := { s.sheet with node := .loaded, reason := 0 } }
    else { s.complete .sheetInvalid with sheet := { s.sheet with reason := reason } }
  | _, _ => s

def execSheetEndComplete (s : State) : Host.Outcome State Fault Refusal := .next s.sheetEndComplete

/-! ### START -/

/-- An own point record as START creates it (R23). -/
def OwnPoint.create (kind : PointKind) (d : PointDef) : OwnPoint :=
  { number := d.number, kind := kind, parcel := d.parcel, meterFactor := d.meterFactor, withdrawn := false, slots := {},
    protection := .none }

/-- The computed fields of a new parcel record (R50). -/
def ParcelResult.initial : ParcelResult :=
  { shipTotal := 0, custodyTotal := 0, checkTotal := 0, shipMass := 0, custodyMass := 0, checkMass := 0, shipCount := 0,
    custodyCount := 0, checkCount := 0, lackingCount := 0, shipAdjusted := 0, difference := 0, ratio := none,
    verdict := .noBasis, quals := {} }

/-- A parcel record with the values of R50 and a compute status. -/
def ParcelRecord.create (status : ComputeStatus) (p : Nat) : ParcelRecord :=
  { parcel := p, result := ParcelResult.initial, settled := false, status := status, count := 0,
    lastNotified := .noBasis }

/-- An attest record as R75 creates it. -/
def AttestRecord.create (p : Nat) (e : Epoch) : AttestRecord :=
  { parcel := p, epoch := e, summary := none, matching := 0, diverging := 0, changedSince := false }

/-- The own point records of a sheet (R23): their kind is the one the own role implies; SURVEY has none. -/
def Sheet.ownRecords (sh : Sheet) : List OwnPoint :=
  match (sh.roster.getD sh.header.ownSlot .empty).pointKind with
  | some kind => sh.points.map (OwnPoint.create kind)
  | none => []

/-- START (R138): one step, in LOADED. -/
def State.start (s : State) : State :=
  match s.sheet.node, s.sheet.sheet with
  | .loaded, some sh =>
    let s := s.answerCode .done
    { s with
      sheet := { s.sheet with node := .active }
      table := { s.table.changed 1 with own := sh.ownRecords }
      balance := { s.balance with records := sh.parcels.map (fun p => ParcelRecord.create .idle p.number) }
      attest := sh.parcels.flatMap (fun p => [AttestRecord.create p.number .opening, AttestRecord.create p.number .closing])
      lau := { s.lau with line := .seek, quietCount := 0 }
      pub := { (s.pub.give .presence) with
        presenceTimer := some (Config.presenceSeconds * Config.bitsPerSecond)
        republishTimer := some (sh.header.republish * Config.bitsPerSecond) } }
  | _, _ => s.answerCode .state

def execStart (s : State) : Host.Outcome State Fault Refusal := .next (s.takeRequest State.start)

end Sys2Proof.Machine
end

