-- ==== Sys2Proof/Machine/Posts.lean ====
section
/-! DEFINITION. Own figures (section 2.3): POST, PERMIT, REVOKE, WITHDRAW, FINALISE, and RESTART (R46, R141). -/

namespace Sys2Proof.Machine

/-! ### POST -/

/-- The protection level covers the epoch's slot (R34, R35). -/
def Protection.covers (p : Protection) (e : Epoch) : Bool :=
  match p, e with
  | .throughClosing, _ => true
  | .throughOpening, .opening => true
  | _, _ => false

/-- A POST is an amendment (R30): OPENING or CLOSING, and that slot is held. -/
def OwnPoint.amends (p : OwnPoint) (e : Epoch) : Bool := decide (e ≠ .interim) && (p.slots.get e).isSome

/-- The permit the amend mode requires is lacking (R32). -/
def State.lacksPermit (s : State) : Bool := decide (s.amendMode ≠ .none) && !s.table.permit

/-- Under amend mode EACH an amendment or a withdrawal consumes the permit (R32). -/
def State.consumesPermit (s : State) : Bool := decide (s.amendMode = .each)

/-- The checks of R29 in order: the refusal that applies first, or what is to be standardised. -/
def State.checkPost (point epoch : Nat) (raw : RawFigures) (s : State) : Except ResultCode StuItem :=
  if s.sheet.node = .final then .error .finalised
  else if s.sheet.node ≠ .active then .error .state
  else match s.table.point? point with
    | none => .error .noPoint
    | some p =>
      if p.withdrawn then .error .withdrawn
      else match Epoch.ofCode epoch, raw.inRangeFor p.kind with
        | none, _ | _, false => .error .range
        | some e, true =>
          if e ≠ .opening ∧ p.slots.opening = none then .error .order
          else if e = .interim ∧ p.slots.closing ≠ none then .error .closed
          else if p.protection.covers e then .error .isProtected
          else if p.amends e ∧ s.lacksPermit then .error .noPermit
          else if (p.slots.get e).any (fun o => decide (o.revision = 65535)) then .error .revisionLimit
          else .ok { parcel := p.parcel, kind := p.kind, meterFactor := p.meterFactor, epoch := e, raw := raw,
                     source := none }

/-- POST (R29): a refusal, or ACCEPTED with a request to the STU (R17). -/
def State.post (point epoch : Nat) (raw : RawFigures) (s : State) : State :=
  match s.checkPost point epoch raw with
  | .error code => s.answerCode code
  | .ok item => { s.accept (.post point) with stu := { s.stu with portWaiting := some [item] } }

def execPost (point epoch : Byte) (quantity water : BitVec 32) (temperature : BitVec 16) (s : State) :
    Host.Outcome State Fault Refusal :=
  .next (s.takeRequest (State.post point.toNat epoch.toNat
    { quantity := quantity.toNat, water := water.toNat, temperature := temperature.toInt }))

/-- The revision of a new observation: 1, or the held one plus one (R30). -/
def nextRevision (held : Option Observation) : Nat :=
  match held with
  | some o => o.revision + 1
  | none => 1

/-- POST_STORE (R31): due when the results have been handed back and the hold is CLEAR (R28). The store ends the POST's
service at the STU (R18). -/
def State.postStore (s : State) : State :=
  match s.port.busy, s.table.postResult with
  | some (.post k), some r =>
    match s.table.point? k with
    | none => s
    | some p =>
      if !s.table.hold.isClear then s
      else
        let e := r.item.epoch
        let o : Observation := { revision := nextRevision (p.slots.get e), raw := r.item.raw, std := r.std }
        let table := (s.table.changed 1).modifyPoint k (fun q => { q with slots := q.slots.set e (some o) })
        let kept := !(s.consumesPermit && p.amends e)
        let s : State := { s with
          table := { table with permit := table.permit && kept, postResult := none }
          stu := s.stu.release .port }
        let s := (s.give (.point k)).request p.parcel
        let s := s.raiseIf (!r.std.quals.isEmpty) .limit p.parcel
        let s := (s.raiseWatch s.ownSlot k).markEpochs p.parcel [e]
        s.complete .done
  | _, _ => s

def execPostStore (s : State) : Host.Outcome State Fault Refusal := .next s.postStore

/-! ### PERMIT and REVOKE -/

/-- PERMIT and REVOKE (R32); under amend mode NONE the permit stays clear. -/
def State.setPermit (value : Bool) (s : State) : State :=
  if s.running then
    { s.answerCode .done with table := { s.table with permit := value && decide (s.amendMode ≠ .none) } }
  else s.answerCode .state

def execPermit (s : State) : Host.Outcome State Fault Refusal := .next (s.takeRequest (State.setPermit true))

def execRevoke (s : State) : Host.Outcome State Fault Refusal := .next (s.takeRequest (State.setPermit false))

/-! ### WITHDRAW -/

/-- The checks of R33 in order. -/
def State.checkWithdraw (point : Nat) (s : State) : Except ResultCode Unit :=
  if s.sheet.node = .final then .error .finalised
  else if s.sheet.node ≠ .active then .error .state
  else match s.table.point? point with
    | none => .error .noPoint
    | some p =>
      if p.withdrawn then .error .withdrawn
      else if p.protection ≠ .none then .error .isProtected
      else if s.lacksPermit then .error .noPermit
      else .ok ()

/-- WITHDRAW (R33). -/
def State.withdraw (point : Nat) (s : State) : State :=
  match s.checkWithdraw point with
  | .error code => s.answerCode code
  | .ok _ => s.accept (.withdraw point)

def execWithdraw (point : Byte) (s : State) : Host.Outcome State Fault Refusal :=
  .next (s.takeRequest (State.withdraw point.toNat))

/-- WITHDRAWAL_MADE (R33): due while a WITHDRAW is in flight and the hold is CLEAR. -/
def State.withdrawalMade (s : State) : State :=
  match s.port.busy with
  | some (.withdraw k) =>
    match s.table.point? k with
    | none => s
    | some p =>
      if !s.table.hold.isClear then s
      else
        let table := (s.table.changed 1).modifyPoint k (fun q => { q with slots := {}, withdrawn := true })
        let s : State := { s with table := { table with permit := table.permit && !s.consumesPermit } }
        let s := (s.give (.point k)).request p.parcel
        let s := (s.raiseWatch s.ownSlot k).markEpochs p.parcel (heldEpochs p.slots)
        s.complete .done
  | _ => s

def execWithdrawalMade (s : State) : Host.Outcome State Fault Refusal := .next s.withdrawalMade

/-! ### Protection -/

/-- The higher of two protection levels: raising never lowers (R34). -/
def Protection.raised (p q : Protection) : Protection :=
  match p, q with
  | .throughClosing, _ | _, .throughClosing => .throughClosing
  | .throughOpening, _ | _, .throughOpening => .throughOpening
  | .none, .none => .none

/-- PROTECTION_RAISE (R34): raise the points a test selects to a level; one change if any level rose (R26). -/
def FigureTable.protect (t : FigureTable) (level : Protection) (which : OwnPoint → Bool) : FigureTable :=
  let own := t.own.map (fun p => if which p then { p with protection := p.protection.raised level } else p)
  if own = t.own then t else { t.changed 1 with own := own }

/-! ### FINALISE -/

/-- Every non-withdrawn own point holds a CLOSING (R36). -/
def FigureTable.complete (t : FigureTable) : Bool := t.own.all (fun p => p.withdrawn || p.slots.closing.isSome)

/-- FINALISE (R36). -/
def State.finalise (s : State) : State :=
  if s.sheet.node = .final then s.answerCode .finalised
  else if s.sheet.node ≠ .active then s.answerCode .state
  else if !s.table.complete then s.answerCode .incomplete
  else s.accept .finalise

def execFinalise (s : State) : Host.Outcome State Fault Refusal := .next (s.takeRequest State.finalise)

/-- FINALISE_MADE (R36): due while a FINALISE is in flight and the hold is CLEAR. -/
def State.finaliseMade (s : State) : State :=
  if s.port.busy = some .finalise ∧ s.table.hold.isClear then
    let s : State := { s with
      table := s.table.protect .throughClosing (fun _ => true)
      sheet := { s.sheet with node := .final } }
    ((s.give .presence).requestAll s.sheetParcels).complete .done
  else s

def execFinaliseMade (s : State) : Host.Outcome State Fault Refusal := .next s.finaliseMade

/-! ### RESTART -/

/-- RESTART (R141). -/
def State.restart (s : State) : State := if s.running then s.accept .restart else s.answerCode .state

def execRestart (s : State) : Host.Outcome State Fault Refusal := .next (s.takeRequest State.restart)

/-- An own point as RESTART leaves it (R46). -/
def OwnPoint.cleared (p : OwnPoint) : OwnPoint := { p with slots := {}, withdrawn := false, protection := .none }

/-- RESTART_CHANGE (R46, R73, R88, R130, R141, R155): one change, due while a RESTART is in flight and the hold is
CLEAR. -/
def State.restartChange (s : State) : State :=
  if s.port.busy = some .restart ∧ s.table.hold.isClear then
    let s : State := { s with
      sheet := { s.sheet with node := .active }
      table := { s.table.changed 1 with own := s.table.own.map OwnPoint.cleared, permit := false }
      balance :=
        { records := s.balance.records.map (fun r : ParcelRecord => ParcelRecord.create .queued r.parcel)
          queue := s.sheetParcels, computing := none, seen := [] }
      attest := s.attest.map (fun r : AttestRecord => AttestRecord.create r.parcel r.epoch)
      pub := { s.pub with queue := [newJob .presence], generation := s.pub.generation + 1, rotation := none }
      notices := { s.notices with pending := [] } }
    s.complete .done
  else s

def execRestartChange (s : State) : Host.Outcome State Fault Refusal := .next s.restartChange

end Sys2Proof.Machine
end

