-- ==== Sys2Proof/Machine/Publish.lean ====
section
/-! DEFINITION. The Publisher's frame building and timers, and the expiry of the silence timer (sections 6.3, 6.4). -/

namespace Sys2Proof.Machine

/-! ### Building a frame (R126) -/

/-- The kind code and body of the frame a subject stands for; `none` when there is nothing to publish (R126). -/
def State.bodyOf (s : State) (sub : Subject) : Option (BitVec 4 × List Byte) :=
  match sub, s.header? with
  | _, none => none
  | .presence, some h =>
    let mine := s.table.own.filter (fun p => !p.withdrawn)
    some (1, presenceBytes (s.rosterRole h.ownSlot) (decide (s.sheet.node = .final)) h.number h.revision mine.length
      (parcelMask (mine.map (·.parcel))))
  | .point k, some _ =>
    match s.table.point? k with
    | some p =>
      if p.withdrawn then some (3, withdrawBytes p)
      else if p.slots.held.isEmpty then none
      else some (2, figureBytes p)
    | none => none
  | .attest p e, some _ =>
    match s.attest.find? (fun r => r.parcel = p ∧ r.epoch = e) with
    | some r => r.summary.map (fun sum => (4, attestBytes p e sum))
    | none => none

/-- FRAME_BUILD (R107, R126, R128): the frame of a subject from the state as it stands. -/
def State.frameOf (s : State) (sub : Subject) : Option Frame :=
  (s.bodyOf sub).map (fun kb =>
    { kind := kb.1, source := BitVec.ofNat 4 s.ownSlot, generation := s.pub.generation, sequence := s.pub.sequence,
      body := kb.2 })

/-- Mark the head job in flight and clear its resend mark (R126). -/
def Publisher.startHead (p : Publisher) : Publisher :=
  match p.queue with
  | j :: js => { p with queue := { j with inFlight := true, resend := false } :: js }
  | [] => p

/-- Remove the head job without a frame (R126). -/
def Publisher.dropHead (p : Publisher) : Publisher := { p with queue := p.queue.tail }

/-- SEQUENCE_ADVANCE (R128) with the ending of a completed send (R127). -/
def Publisher.sent (p : Publisher) : Publisher := { p.completed with sequence := p.sequence + 1 }

/-! ### Timers -/

/-- PRESENCE_TIMER_EXPIRY (R129): due when the timer has run down to 0. -/
def Publisher.presenceExpired (p : Publisher) : Publisher :=
  if p.presenceTimer = some 0 then
    { p.giveByTimer .presence with presenceTimer := some (Config.presenceSeconds * Config.bitsPerSecond) }
  else p

def execPresenceTimerExpiry (s : State) : Host.Outcome State Fault Refusal :=
  .next { s with pub := s.pub.presenceExpired }

/-- The place of a subject in rotation order (R129): points by number, then attest subjects by parcel and epoch. -/
def Subject.rank : Subject → Nat
  | .presence => 0
  | .point k => 1 + k
  | .attest p e => 1000 + 4 * p + e.code

/-- The next eligible subject after the rotation position, wrapping to the first (R129). -/
def nextInRotation (position : Option Subject) (eligible : List Subject) : Option Subject :=
  match position with
  | none => eligible.head?
  | some cur => (eligible.find? (fun t => decide (cur.rank < t.rank))).or eligible.head?

/-- REPUBLISH_TIMER_EXPIRY (R129): due when the timer has run down to 0. -/
def State.republishExpired (s : State) : State :=
  if s.pub.republishTimer = some 0 then
    let pub := { s.pub with republishTimer := some s.republishBits }
    match nextInRotation s.pub.rotation s.eligible with
    | some sub => { s with pub := { pub.giveByTimer sub with rotation := some sub } }
    | none => { s with pub := pub }
  else s

def execRepublishTimerExpiry (s : State) : Host.Outcome State Fault Refusal := .next s.republishExpired

/-- SILENCE_TIMER_EXPIRY (R119): due while the station is PRESENT and its timer has run down to 0. -/
def State.silenceExpired (slot : Nat) (s : State) : State :=
  let r := s.peer slot
  if r.state = .present ∧ r.timer = some 0 then
    (s.setPeer slot { r with state := .absent, timer := none }).raise .peerAbsent slot
  else s

def execSilenceTimerExpiry (slot : BitVec 4) (s : State) : Host.Outcome State Fault Refusal :=
  .next (s.silenceExpired slot.toNat)

end Sys2Proof.Machine
end

