-- ==== Sys2Proof/Machine/Line.lean ====
section
/-! DEFINITION. Line access (chapter 5): quiet, claim windows, rounds and turns, sending, clashes, reception, and LINK
RESET. -/

namespace Sys2Proof.Machine

def State.mapLau (f : Lau → Lau) (s : State) : State := { s with lau := f s.lau }

/-! ### Quiet and the window -/

/-- DOMINANT_LEVEL_READ (R89, R91, R94, R95): the quiet count restarts; in ROUND, awaiting a frame, a start bit begins a
reception, and the line has not stayed recessive since the reference instant. -/
def Lau.dominantRead (startBit : Bool) (l : Lau) : Lau :=
  match l.line with
  | .off => l
  | .round .awaiting =>
    { l with quietCount := 0, lineClear := false, line := .round (if startBit then .receiving else .awaiting) }
  | .seek | .window | .round .receiving | .round (.sending _ _) | .round .clashMark => { l with quietCount := 0 }

def execDominantLevelRead (startBit : Bool) (s : State) : Host.Outcome State Fault Refusal :=
  .next (s.mapLau (Lau.dominantRead startBit))

/-- A claim window begins (R91, R92). -/
def Lau.openWindow (l : Lau) : Lau :=
  { l with line := .window, claimWord := 0, ownClaim := false, pointer := none, decided := false, claiming := false,
           lineClear := true, gapPassed := false, sentInRound := false }

/-- QUIET (R91): due when the quiet count has reached 48, in SEEK and in ROUND while no frame or mark is under way; while one
is, the line cannot be quiet (R89, R95), and the command changes nothing (log 1, DESIGN CHOICE). -/
def Lau.quietReached (l : Lau) : Lau :=
  match l.line with
  | .seek | .round .awaiting => if Config.quietBits ≤ l.quietCount then l.openWindow else l
  | .off | .window | .round .receiving | .round (.sending _ _) | .round .clashMark => l

def execQuiet (s : State) : Host.Outcome State Fault Refusal := .next (s.mapLau Lau.quietReached)

/-- CLAIM_DECISION (R92): due once in a window. -/
def Lau.decideClaim (hasJob : Bool) (l : Lau) : Lau :=
  if l.line = .window ∧ l.decided = false then
    let claims := !l.mute && hasJob
    { l with decided := true, ownClaim := claims, claiming := claims }
  else l

def execClaimDecision (s : State) : Host.Outcome State Fault Refusal :=
  .next (s.mapLau (Lau.decideClaim (!s.pub.queue.isEmpty)))

/-- CLAIM_SLOT_SAMPLE (R92): due in a window. A node driving its slot reads it dominant; the drive ends with the slot
(log 15). -/
def Lau.sampleSlot (own slot : Nat) (dominant : Bool) (l : Lau) : Lau :=
  if l.line = .window then
    let level := dominant || (l.claiming && decide (slot = own))
    { l with claimWord := if level then slotAdd l.claimWord slot else l.claimWord
             quietCount := if level then 0 else l.quietCount
             claiming := l.claiming && decide (slot ≠ own) }
  else l

def execClaimSlotSample (slot : BitVec 4) (dominant : Bool) (s : State) : Host.Outcome State Fault Refusal :=
  .next (s.mapLau (Lau.sampleSlot s.ownSlot slot.toNat dominant))

/-- WINDOW_END (R93): due in a window. -/
def Lau.endWindow (l : Lau) : Lau :=
  if l.line = .window then
    match lowestFrom l.claimWord 0 with
    | none => l.toSeek 0
    | some i =>
      { l.newTurn (some i) with quietCount := 0, claiming := false, sentInRound := false }
  else l

def execWindowEnd (s : State) : Host.Outcome State Fault Refusal := .next (s.mapLau Lau.endWindow)

/-! ### Turns -/

/-- The turn gap of the node's own claimed turn is reached with the line recessive since the reference instant (R94), and
the node has not yet sent in this round (R97). -/
def Lau.ownTurn (own : Nat) (l : Lau) : Bool :=
  decide (l.line = .round .awaiting) && decide (l.pointer = some own) && l.ownClaim && l.lineClear && !l.gapPassed
    && !l.sentInRound

/-- TURN_GAP (R94, R97, R126): at its own turn the node starts the frame of its head job; a job with nothing to publish
is removed and nothing is sent. -/
def State.turnGap (s : State) : State :=
  if s.lau.ownTurn s.ownSlot then
    let s := s.mapLau (fun l => { l with gapPassed := true })
    match s.lau.mute, s.pub.queue with
    | true, _ | _, [] => s
    | false, j :: _ =>
      match s.frameOf j.subject with
      | none => { s with pub := s.pub.dropHead }
      | some f =>
        { s with pub := s.pub.startHead
                 lau := { s.lau with line := .round (.sending f.bytes 0), sentInRound := true } }
  else s

def execTurnGap (s : State) : Host.Outcome State Fault Refusal := .next s.turnGap

/-- TURN_TIMEOUT (R94): due while a claimant's turn runs and no start bit has been read. -/
def Lau.turnTimeout (l : Lau) : Lau :=
  match l.line, l.pointer with
  | .round .awaiting, some i => l.newTurn (lowestFrom l.claimWord (i + 1))
  | _, _ => l

def execTurnTimeout (s : State) : Host.Outcome State Fault Refusal := .next (s.mapLau Lau.turnTimeout)

/-! ### Sending -/

/-- SEND_COMPLETE (R97, R98, R127, R128): due once the last stop bit of the frame being sent has begun. -/
def State.sendComplete (stopDominant : Bool) (s : State) : State :=
  match s.lau.line with
  | .round (.sending frame driven) =>
    if lastStopBit frame driven then
      { s with
        lau := { (s.lau.sendCompleted.frameEnded s.ownSlot) with
          quietCount := if stopDominant then 0 else trailingRecessive frame }
        pub := s.pub.sent }
    else s
  | _ => s

def execSendComplete (stopDominant : Bool) (s : State) : Host.Outcome State Fault Refusal :=
  .next (s.sendComplete stopDominant)

/-- CLASH (R98): due while a recessive bit of a frame is being driven, other than the stop bit of its last byte: a
dominant bit reads back dominant (R97). -/
def State.clash (s : State) : State :=
  match s.lau.line with
  | .round (.sending frame driven) =>
    if frameBit frame driven || lastStopBit frame driven then s
    else
      { s with
        lau := { s.lau with line := .round .clashMark, quietCount := 0, clashes := satAdd s.lau.clashes 1,
                            clashRun := s.lau.clashRun + 1 }
        pub := s.pub.clashed }
  | _ => s

def execClash (s : State) : Host.Outcome State Fault Refusal := .next s.clash

/-- CLASH_MARK_END (R98): due while a clash mark is driven. -/
def State.clashMarkEnd (s : State) : State :=
  if s.lau.line = .round .clashMark then
    if s.lau.clashRun ≥ Config.faultRun then
      ({ s with lau := { s.lau.toSeek 0 with mute := true } } : State).raise .linkFault 1
    else { s with lau := s.lau.toSeek 0 }
  else s

def execClashMarkEnd (s : State) : Host.Outcome State Fault Refusal := .next s.clashMarkEnd

/-! ### Receiving -/

/-- A failed reception (R95, R96, R99): counted in both counts; at the sixteenth in a row LINK_FAULT(0) is raised. -/
def State.failReception (s : State) : State :=
  let s := s.count (fun c => { c with checkFailures := satAdd c.checkFailures 1 })
  ({ s with lau := s.lau.receptionFailed.1 } : State).raiseIf s.lau.receptionFailed.2 .linkFault 0

/-- RECEPTION_FAILED (R95, R96, R99): due while a reception is under way; a start bit has begun it and the dominant levels
of its bytes have restarted the quiet count, which goes on in SEEK (log 8). -/
def execReceptionFailed (s : State) : Host.Outcome State Fault Refusal :=
  .next (if s.lau.line = .round .receiving then s.failReception else s)

/-- A valid frame joins the receive queue, or is dropped as an overrun (R110). -/
def FrameIntake.queued (f : Frame) (i : FrameIntake) : FrameIntake :=
  if i.queue.length < Config.receiveQueue then { i with queue := i.queue ++ [f] }
  else { i with counters := { i.counters with overruns := satAdd i.counters.overruns 1 } }

/-- A valid frame at the LAU (R96, R99, R100): a frame of the own slot is a slot clash, any other is handed to the
intake. -/
def State.validFrame (f : Frame) (s : State) : State :=
  let lau := { s.lau.frameEnded f.source.toNat with failureRun := 0 }
  if f.source.toNat = s.ownSlot then ({ s with lau := { lau with mute := true } } : State).raise .linkFault 2
  else { s with lau := lau, intake := s.intake.queued f }

/-- A frame's levels pass on the line: the quiet count is the recessive time since its last dominant bit (R91). -/
def Lau.heardLevels (bytes : List Byte) (l : Lau) : Lau := { l with quietCount := trailingRecessive bytes }

/-- FRAME_RECEIVED (R95, R96, R168, R169): in ROUND the reception ends validly or fails, one not yet begun by a start bit
given by itself among them (log 8); in SEEK and WINDOW its levels only
restart the quiet count; while the node drives the line it receives nothing (R97). -/
def State.frameReceived (bytes : List Byte) (s : State) : State :=
  match s.lau.line with
  | .off | .round (.sending _ _) | .round .clashMark => s
  | .seek | .window => s.mapLau (Lau.heardLevels bytes)
  | .round .awaiting | .round .receiving =>
    match Frame.ofBytes bytes with
    | some f => (s.mapLau (Lau.heardLevels bytes)).validFrame f
    | none => (s.mapLau (Lau.heardLevels bytes)).failReception

def execFrameReceived (bytes : List Byte) (s : State) : Host.Outcome State Fault Refusal :=
  .next (s.frameReceived bytes)

/-! ### LINK RESET -/

/-- The last stop bit of the frame being sent has begun (R103). -/
def Lau.lastStopBegun (l : Lau) : Bool :=
  match l.line with
  | .round (.sending frame driven) => lastStopBit frame driven
  | _ => false

/-- A peer record after a LINK RESET (R123). -/
def PeerRecord.unheard (r : PeerRecord) : PeerRecord := { r with state := .unheard, baseline := none, timer := none }

/-- STU_REQUEST_WITHDRAWN (R21): the Frame Intake's request leaves the STU. -/
def Stu.withdrawIntake (u : Stu) : Stu := { u.release .intake with intakeWaiting := none }

/-- The LAU's part of a LINK RESET (R103). -/
def Lau.linkReset (l : Lau) : Lau := { l.toSeek 0 with mute := false, clashRun := 0, failureRun := 0 }

/-- PEERS_TO_UNHEARD (R64, R123): the recompute requests are given once, if any station changed state. -/
def State.peersUnheard (s : State) : State :=
  let moved := s.peers.any (fun r => decide (r.state ≠ .unheard))
  let s := { s with peers := s.peers.map PeerRecord.unheard }
  if moved then s.requestAll s.sheetParcels else s

/-- LINK_RESET carried out (R21, R27, R103, R104, R130). -/
def State.linkResetStep (s : State) : State :=
  let s := if s.lau.lastStopBegun then { s with lau := s.lau.sendCompleted, pub := s.pub.sent } else s
  let s := { s with
    lau := s.lau.linkReset
    intake := FrameIntake.reset
    stu := s.stu.withdrawIntake
    table := { s.table with hold := Hold.clear } }
  let s := s.peersUnheard
  { s with pub := { s.pub with queue := s.refilled } }

/-- LINK_RESET (R104): accepted, carried out and completed in one step. -/
def State.linkReset (s : State) : State :=
  if s.running then ((s.accept .linkReset).linkResetStep).complete .done else s.answerCode .state

def execLinkReset (s : State) : Host.Outcome State Fault Refusal := .next (s.takeRequest State.linkReset)

end Sys2Proof.Machine
end

