-- ==== Sys2Proof/Machine/Clock.lean ====
section
/-! DEFINITION. One bit time in which no command arrives (log 2): what advances with the clock. -/

namespace Sys2Proof.Machine

/-- The quiet count after one more bit time, dominant or recessive (R91); it stands at 48 once reached (log 14). -/
def nextQuiet (dominant : Bool) (count : Nat) : Nat := if dominant then 0 else min Config.quietBits (count + 1)

/-- One bit time at the LAU: a bit of the frame being sent is driven, up to its last stop bit (R89, R97); the quiet count
counts a recessive bit time, and restarts where the node itself drives dominant (R91). -/
def Lau.tick (l : Lau) : Lau :=
  match l.line with
  | .off => l
  | .round (.sending frame driven) =>
    { l with line := .round (.sending frame (if lastStopBit frame driven then driven else driven + 1))
             quietCount := nextQuiet (frameBit frame driven) l.quietCount }
  | .seek | .window | .round .awaiting | .round .receiving | .round .clashMark =>
    { l with quietCount := nextQuiet l.ltx l.quietCount }

/-- One bit time less on a running timer; it stands at 0 until its expiry is taken (R119, R129). -/
def tickTimer (t : Option Nat) : Option Nat := t.map (· - 1)

/-- One bit time at the whole node. -/
def State.tick (s : State) : State :=
  { s with
    lau := s.lau.tick
    peers := s.peers.map (fun r => { r with timer := tickTimer r.timer })
    pub := { s.pub with presenceTimer := tickTimer s.pub.presenceTimer, republishTimer := tickTimer s.pub.republishTimer } }

end Sys2Proof.Machine
end

