-- ==== Sys2Proof/Machine/Attestation.lean ====
section
/-! DEFINITION. Attestation and view comparison (chapter 4). -/

namespace Sys2Proof.Machine

/-! ### The view and its scan -/

/-- The own points of a parcel's view (R48): not withdrawn. -/
def viewOwn (own : List OwnPoint) (p : Nat) : List OwnPoint :=
  own.filter (fun o => decide (o.parcel = p) && !o.withdrawn)

/-- The peer entries of a parcel's view (R48): their station is not FOREIGN. -/
def viewEntries (entries : List PeerEntry) (peers : List PeerRecord) (p : Nat) : List PeerEntry :=
  entries.filter (fun e => decide (e.parcel = p) && decide ((peers.getD e.slot PeerRecord.reset).state ≠ .foreign))

/-- The GSVs a scan counts and sums (R77): this node's own, for own points and peer entries alike. -/
def State.scanned (p : Nat) (e : Epoch) (s : State) : List Nat :=
  (viewOwn s.table.own p).filterMap (fun o => (o.slots.get e).map (fun ob => ob.std.gsv))
    ++ (viewEntries s.table.entries s.peers p).filterMap (fun o => (o.slots.get e).map (fun ob => ob.obs.std.gsv))

/-- VIEW_SCAN (R77). -/
def State.scan (p : Nat) (e : Epoch) (s : State) : Summary :=
  { count := (s.scanned p e).length, sum := (s.scanned p e).sum }

/-! ### The ATTEST request -/

/-- Every non-withdrawn own point of the parcel holds the epoch (R76, check 4). -/
def FigureTable.attestable (t : FigureTable) (p : Nat) (e : Epoch) : Bool :=
  (viewOwn t.own p).all (fun o => (o.slots.get e).isSome)

/-- ATTEST (R76, R78 step 1). -/
def State.attestRequest (parcel epoch : Nat) (s : State) : State :=
  if !s.running then s.answerCode .state
  else match Epoch.ofAttestCode epoch, parcelInRange parcel with
    | none, _ | _, false => s.answerCode .range
    | some e, true =>
      if !s.parcelDefined parcel then s.answerCode .noParcel
      else if !s.table.attestable parcel e then s.answerCode .incomplete
      else
        let s := s.accept (.attest parcel e)
        { s with table := { s.table with hold := s.table.hold.requestByAttest s.intake.merging.isSome } }

def execAttest (parcel epoch : Byte) (s : State) : Host.Outcome State Fault Refusal :=
  .next (s.takeRequest (State.attestRequest parcel.toNat epoch.toNat))

/-- INTAKE_HOLD_SET (R27): due while the Attestation Unit waits, nobody holds and no frame is being merged. -/
def State.intakeHoldSet (s : State) : State :=
  if s.table.hold.waiting ∧ s.table.hold.holder = none ∧ s.intake.merging = none then
    { s with table := { s.table with hold := { holder := some .attestation, waiting := false } } }
  else s

def execIntakeHoldSet (s : State) : Host.Outcome State Fault Refusal := .next s.intakeHoldSet

/-- The protection level an attested epoch raises to (R34). -/
def Epoch.protection : Epoch → Protection
  | .closing => .throughClosing
  | .opening | .interim => .throughOpening

def modifyAttest (p : Nat) (e : Epoch) (f : AttestRecord → AttestRecord) (rs : List AttestRecord) : List AttestRecord :=
  rs.map (fun r => if r.parcel = p ∧ r.epoch = e then f r else r)

/-- ATTEST_SCAN_COMPLETE (R78, R79): due while an ATTEST is in flight and the Attestation Unit holds the hold. -/
def State.attestScanComplete (s : State) : State :=
  match s.port.busy, s.table.hold.holder with
  | some (.attest p e), some .attestation =>
    let sum := s.scan p e
    let table := s.table.protect e.protection (fun o => decide (o.parcel = p) && !o.withdrawn)
    let s : State := { s with
      table := { table with hold := table.hold.release }
      attest := modifyAttest p e (fun r => { r with summary := some sum, changedSince := false }) s.attest }
    (s.give (.attest p e)).complete .done
  | _, _ => s

def execAttestScanComplete (s : State) : Host.Outcome State Fault Refusal := .next s.attestScanComplete

/-! ### Comparison on receipt -/

/-- COMPARISON_OUTCOME (R83) on the record of the compared (parcel, epoch). -/
def AttestRecord.compared (slot : Nat) (equal : Bool) (r : AttestRecord) : AttestRecord :=
  if equal then
    { r with matching := slotAdd r.matching slot, diverging := slotDrop r.diverging slot, changedSince := false }
  else
    { r with matching := slotDrop r.matching slot, diverging := slotAdd r.diverging slot, changedSince := false }

/-- COMPARISON_COMPLETE (R82, R83): due while the Frame Intake holds the hold for a received ATTEST frame. -/
def State.comparisonComplete (s : State) : State :=
  match s.intake.merging, s.table.hold.holder with
  | some (.comparison slot p e theirs), some .intake =>
    let equal := decide (s.scan p e = theirs)
    let s : State := { s with
      attest := modifyAttest p e (AttestRecord.compared slot equal) s.attest
      table := { s.table with hold := s.table.hold.release }
      intake := { s.intake with merging := none } }
    s.raiseIf (!equal) .viewDiverge p
  | _, _ => s

def execComparisonComplete (s : State) : Host.Outcome State Fault Refusal := .next s.comparisonComplete

end Sys2Proof.Machine
end

