-- ==== Sys2Proof/Machine/Balance.lean ====
section
/-! DEFINITION. The Balance Engine (chapter 3): moved quantities, side totals, the verdict, the parcel qualifiers, and the
taking and completion of a computation. -/

namespace Sys2Proof.Machine

/-! ### Moved quantities (R51, R52, R53) -/

/-- A point of a parcel's view: its kind, the standard values of its slots, and for a peer entry its station. -/
structure ViewPoint where
  kind : PointKind
  slots : Slots Standard
  station : Option Nat
deriving DecidableEq, Repr

def OwnPoint.view (o : OwnPoint) : ViewPoint :=
  { kind := o.kind, station := none
    slots := { opening := o.slots.opening.map (·.std), interim := o.slots.interim.map (·.std),
               closing := o.slots.closing.map (·.std) } }

def PeerEntry.view (e : PeerEntry) : ViewPoint :=
  { kind := e.kind, station := some e.slot
    slots := { opening := e.slots.opening.map (·.obs.std), interim := e.slots.interim.map (·.obs.std),
               closing := e.slots.closing.map (·.obs.std) } }

/-- The points of a parcel's view (R48, R51). -/
def Reading.points (r : Reading) (p : Nat) : List ViewPoint :=
  (viewOwn r.own p).map OwnPoint.view ++ (viewEntries r.entries r.peers p).map PeerEntry.view

/-- The opening and the latest observation of a contributing point; `none` when the OPENING is absent (R52). -/
def ViewPoint.used (v : ViewPoint) : Option (Standard × Standard) :=
  v.slots.opening.map (fun o => (o, (v.slots.closing.or v.slots.interim).getD o))

/-- The sign of a moved quantity, latest less opening, by kind and direction (R52). -/
def moveSign (kind : PointKind) (dir : Direction) : Int :=
  match kind, dir with
  | .shipTank, .discharge => -1
  | .shipTank, .loading => 1
  | .shoreTank, .discharge => 1
  | .shoreTank, .loading => -1
  | .meter, _ => 1

/-- Moved GSV and moved mass (R52). -/
def movedGsv (kind : PointKind) (dir : Direction) (u : Standard × Standard) : Int :=
  moveSign kind dir * ((u.2.gsv : Int) - u.1.gsv)

def movedMass (kind : PointKind) (dir : Direction) (u : Standard × Standard) : Int :=
  moveSign kind dir * ((u.2.mass : Int) - u.1.mass)

/-- The sides of R53. -/
inductive Side where
  | ship | custody | check
deriving DecidableEq, Repr

def sideOf (kind : PointKind) (custody : CustodySide) : Side :=
  match kind, custody with
  | .shipTank, _ => .ship
  | .shoreTank, .tanks | .meter, .meters => .custody
  | .shoreTank, .meters | .meter, .tanks => .check

/-- The contributing points of one side, with their opening and latest observations (R53). -/
def contributing (vs : List ViewPoint) (custody : CustodySide) (side : Side) : List (ViewPoint × (Standard × Standard)) :=
  vs.filterMap (fun v => if sideOf v.kind custody = side then v.used.map (fun u => (v, u)) else none)

def totalGsv (dir : Direction) (cs : List (ViewPoint × (Standard × Standard))) : Int :=
  (cs.map (fun c => movedGsv c.1.kind dir c.2)).sum

def totalMass (dir : Direction) (cs : List (ViewPoint × (Standard × Standard))) : Int :=
  (cs.map (fun c => movedMass c.1.kind dir c.2)).sum

/-! ### From totals to verdict (section 3.3) -/

/-- Division by a positive divisor, rounded half away from zero (section 3.3). -/
def divHalfAway (a : Int) (d : Nat) : Int :=
  let q := a.natAbs / d
  let r := a.natAbs % d
  let m : Int := if d ≤ 2 * r then q + 1 else q
  if a < 0 then -m else m

/-- Ship adjusted (R55). -/
def shipAdjustedOf (shipTotal : Int) (vef : Nat) : Int := divHalfAway (shipTotal * 100000) vef

/-- The unclamped ratio (R57): the sign is reversed when ship adjusted is negative. -/
def rawRatio (difference adjusted : Int) : Int :=
  let q := divHalfAway (difference * 100000) adjusted.natAbs
  if adjusted < 0 then -q else q

def clampRatio (r : Int) : Int := max (-99999) (min 99999 r)

/-- The verdict of a ratio's magnitude against the bands (R58). -/
def verdictOf (inner outer : Nat) (ratio : Int) : Verdict :=
  if ratio.natAbs ≤ inner then .within else if ratio.natAbs ≤ outer then .marginal else .outside

/-! ### Parcel qualifiers (section 3.4) -/

/-- A roster station: its slot, its roster role and its peer record. -/
structure Station where
  slot : Nat
  role : Role
  peer : PeerRecord
deriving DecidableEq, Repr

/-- The roster stations: the slots other than the own whose role is not EMPTY (section 3.4). -/
def rosterStations (sh : Sheet) (peers : List PeerRecord) : List Station :=
  (List.range Config.linkSlots).filterMap (fun i =>
    let role := sh.roster.getD i .empty
    if i ≠ sh.header.ownSlot ∧ role ≠ .empty then
      some { slot := i, role := role, peer := peers.getD i PeerRecord.reset }
    else none)

def Station.declares (st : Station) (p : Nat) : Bool := parcelIn st.peer.declaredMask p

/-- A station makes the parcel PARTIAL (R59, second to fourth conditions). -/
def Station.lacks (st : Station) (entries : List PeerEntry) (p : Nat) : Bool :=
  match st.peer.state with
  | .present =>
    st.declares p && decide ((entries.filter (fun e => decide (e.slot = st.slot))).length < st.peer.declaredCount)
  | .absent => st.declares p
  | .unheard => st.role.pointKind.isSome
  | .foreign => false

/-- One computation of a parcel from one reading (R51 to R63). -/
def compute (sh : Sheet) (d : ParcelDef) (r : Reading) : ParcelResult :=
  let vs := r.points d.number
  let dir := sh.header.direction
  let ship := contributing vs d.custody .ship
  let custody := contributing vs d.custody .custody
  let check := contributing vs d.custody .check
  let lacking := (vs.filter (fun v => v.slots.opening.isNone)).length
  let adjusted := shipAdjustedOf (totalGsv dir ship) d.vef
  let difference := totalGsv dir custody - adjusted
  let basis := !ship.isEmpty && !custody.isEmpty && decide (adjusted ≠ 0)
  let raw := rawRatio difference adjusted
  let used := ship ++ custody ++ check
  let stations := rosterStations sh r.peers
  let isPartial := decide (0 < lacking) || stations.any (fun st => st.lacks r.entries d.number)
  let closed := !isPartial && !vs.isEmpty && vs.all (fun v => v.slots.closing.isSome)
  { shipTotal := totalGsv dir ship, custodyTotal := totalGsv dir custody, checkTotal := totalGsv dir check
    shipMass := totalMass dir ship, custodyMass := totalMass dir custody, checkMass := totalMass dir check
    shipCount := ship.length, custodyCount := custody.length, checkCount := check.length, lackingCount := lacking
    shipAdjusted := adjusted, difference := difference
    ratio := if basis then some (clampRatio raw) else none
    verdict := if basis then verdictOf d.inner d.outer (clampRatio raw) else .noBasis
    quals :=
      { isPartial := isPartial
        stale := used.any (fun c => c.1.station.any (fun sl =>
          decide ((r.peers.getD sl PeerRecord.reset).state = .absent)))
        limited := used.any (fun c => !c.2.1.quals.isEmpty || !c.2.2.quals.isEmpty)
          || (basis && decide (clampRatio raw ≠ raw))
        closed := closed
        definitive := closed && decide (r.node = .final) && stations.all (fun st =>
          !(decide (st.peer.state = .present) && st.declares d.number) || st.peer.finalised) } }

/-! ### The computation (section 3.5) -/

/-- BALANCE_TAKE (R66): due while the engine is idle and the queue holds a parcel. -/
def State.balanceTake (s : State) : State :=
  match s.balance.computing, s.balance.queue with
  | none, p :: rest =>
    { s with balance :=
      { s.balance.setStatus p .computing with queue := rest, computing := some p, seen := [s.reading] } }
  | _, _ => s

def execBalanceTake (s : State) : Host.Outcome State Fault Refusal := .next s.balanceTake

/-- The version, among those a computation met, that the free value picks for a record (log 11). -/
def pickReading (free slot item : Nat) (versions : List Reading) (last : Reading) : Reading :=
  versions.getD (Config.readingPick free slot item % versions.length) last

/-- The entries of a set of keys, each as one version holds it, if it does. -/
def entriesFrom (keys : List (Nat × Nat)) (version : Nat → Nat → Reading) : List PeerEntry :=
  keys.filterMap (fun k => (version k.1 k.2).entries.find? (isEntry k.1 k.2))

/-- Some reading of a table that changed while it was read (R67): each record from one of the versions the computation
met, picked by the free value. An own point has the pick of slot 16, a peer record the pick of item 24, the node state
the pick of both: no peer entry has these numbers. A mix of more entries than a table can hold is a reading of no table
(R38, and R49's counts of at most 184); the entries then come from one version, that of the pick of slot 16 and item 25
(log 11). -/
def tornReading (free : Nat) (versions : List Reading) (last : Reading) : Reading :=
  let version := fun slot item => pickReading free slot item versions last
  let keys := ((versions ++ [last]).flatMap (fun r => r.entries.map (fun e => (e.slot, e.point)))).eraseDups
  let mixed := entriesFrom keys version
  { own := last.own.filterMap (fun o => (version Config.linkSlots o.number).own.find? (fun q => q.number = o.number))
    entries :=
      if mixed.length ≤ Config.peerEntries then mixed
      else entriesFrom keys (fun _ _ => version Config.linkSlots (Config.ownPoints + 1))
    peers := (List.range Config.linkSlots).map (fun i => (version i Config.ownPoints).peers.getD i PeerRecord.reset)
    node := (version Config.linkSlots Config.ownPoints).node }

def Verdict.rank : Verdict → Nat
  | .noBasis | .within => 0
  | .marginal => 1
  | .outside => 2

/-- The verdict notice a settled completion raises, if any (R70). -/
def edgeNotice (edge : EdgeSelect) (old new : Verdict) : Option NoticeKind :=
  if new = .noBasis then none
  else if old.rank < new.rank then
    if edge = .worse ∨ edge = .both then some .verdictWorse else none
  else if new.rank < old.rank then
    if edge = .better ∨ edge = .both then some .verdictBetter else none
  else none

/-- The last notified verdict after a settled completion (R70). -/
def notifiedAfter (old new : Verdict) : Verdict := if new = .noBasis then old else new

/-- VERDICT_EDGE (R70): the notice, if one is raised. -/
def State.raiseEdge (p : Nat) (old new : Verdict) (s : State) : State :=
  match edgeNotice (s.notices.edge p) old new with
  | some k => s.raise k p
  | none => s

/-- BALANCE_COMPLETE (R67): due while a parcel is being computed. A settled result is of the state as it stands here, the
entry count of a station over all parcels (R59) among it; R66 does not say when in its run a computation reads it
(log 30, DEDUCED from R69). -/
def State.balanceComplete (s : State) : State :=
  match s.balance.computing, s.sheet.sheet with
  | some p, some sh =>
    match s.parcelDef? p, s.balance.records.find? (fun r => r.parcel = p) with
    | some d, some rec =>
      match rec.status with
      | .computingRedo =>
        let reading := tornReading s.freeIx (s.balance.seen ++ [s.reading]) s.reading
        let engine := s.balance.modify p (fun r =>
          { r with result := compute sh d reading, settled := false, status := .queued, count := r.count + 1 })
        { s with freeIx := s.freeIx + 1
                 balance := { engine with queue := s.balance.queue ++ [p], computing := none, seen := [] } }
      | .computing =>
        let result := compute sh d s.reading
        let engine := s.balance.modify p (fun r =>
          { r with result := result, settled := true, status := .idle, count := r.count + 1,
                   lastNotified := notifiedAfter r.lastNotified result.verdict })
        let s : State := { s with balance := { engine with computing := none, seen := [] } }
        s.raiseEdge p rec.lastNotified result.verdict
      | .idle | .queued => s
    | _, _ => s
  | _, _ => s

def execBalanceComplete (s : State) : Host.Outcome State Fault Refusal := .next s.balanceComplete

end Sys2Proof.Machine
end

