-- ==== Sys2Proof/Machine/Intake.lean ====
section
/-! DEFINITION. The Frame Intake's handling of one frame: source check, form check, the Peer Registry's judgement, content
check and routing (sections 6.2, 6.3), and the merge into the table (section 2.5). -/

namespace Sys2Proof.Machine

/-! ### The Peer Registry's judgement -/

/-- A PRESENCE matches (R116): the roster role of its slot, and this node's sheet number and revision. -/
def State.presenceMatches (slot : Nat) (p : PresenceBody) (s : State) : Bool :=
  decide (p.role = s.rosterRole slot)
    && s.header?.any (fun h => decide (h.number = p.number) && decide (h.revision = p.revision))

def PresenceBody.heard (p : PresenceBody) : HeardValues := { role := p.role, number := p.number, revision := p.revision }

/-- BECOME_FOREIGN (R121), and a further mismatch of a FOREIGN station, which refreshes the heard values only. Generation,
baseline and declared values stay (log 20). The removal's recompute requests come before those of the change of state (log
38, DESIGN CHOICE). -/
def State.mismatched (slot : Nat) (p : PresenceBody) (s : State) : State :=
  let s := s.count (fun c => { c with foreign := satAdd c.foreign 1 })
  if (s.peer slot).state = .foreign then s.updatePeer slot (fun r => { r with heard := some p.heard })
  else
    let s := s.dropStation slot
    let s := s.updatePeer slot
      (fun r => { r.flagsCleared with state := .foreign, heard := some p.heard, timer := none })
    s.raise .sheetMismatch slot

/-- What the registry finds of a frame it accepts (R116 to R121). -/
structure Judgement where
  /-- the station's entries and memberships go, and its two flags are cleared -/
  drop : Bool := false
  /-- frames missing before this one -/
  missing : Nat := 0
  stepBack : Bool := false
  /-- the station was ABSENT -/
  returns : Bool := false
deriving DecidableEq, Repr

/-- The gap of R118: the sequence less the baseline less one, modulo 65536. -/
def sequenceGap (baseline sequence : BitVec 16) : Nat := (sequence - baseline - 1#16).toNat

/-- SEQUENCE_JUDGEMENT (R118). -/
def judgeSequence (baseline sequence : BitVec 16) : Judgement :=
  let d := sequenceGap baseline sequence
  if d ≤ 32767 then { missing := d } else { drop := true, stepBack := true }

def Body.isPresence : Body → Bool
  | .presence _ => true
  | .figure .. | .withdraw .. | .attest .. => false

/-- UNHEARD_, PRESENT_ and ABSENT_JUDGEMENT of a frame that does not mismatch, and of one from a FOREIGN station (R116, R117,
R118, R120, R121); `none` when it is discarded. -/
def PeerRecord.judge (f : Frame) (b : Body) (r : PeerRecord) : Option Judgement :=
  match r.state with
  | .unheard => if b.isPresence then some { drop := r.generation.any (fun g => decide (g ≠ f.generation)) } else none
  | .foreign => if b.isPresence then some {} else none
  | .present =>
    if r.generation ≠ some f.generation then some { drop := true }
    else match r.baseline with
      | some base => some (judgeSequence base f.sequence)
      | none => some {}
  | .absent => some { drop := decide (r.generation ≠ some f.generation), returns := true }

/-- Frames missing join a saturating total (R118). -/
def addMissing (total d : Nat) : Nat := if d = 0 then total else satAdd total d

/-- A frame is accepted (R115 to R120): the station is PRESENT with the frame's generation and baseline, and its silence
timer starts at the full value. -/
def PeerRecord.hear (f : Frame) (full missing : Nat) (r : PeerRecord) : PeerRecord :=
  { r with state := .present, generation := some f.generation, baseline := some f.sequence, timer := some full,
           accepted := satAdd r.accepted 1, missing := addMissing r.missing missing }

/-- PRESENCE_CONTENTS_TAKEN (R122). -/
def PeerRecord.takeContents (b : Body) (r : PeerRecord) : PeerRecord :=
  match b with
  | .presence p =>
    { r with heard := some p.heard, declaredCount := p.count, declaredMask := p.mask, finalised := p.final }
  | .figure .. | .withdraw .. | .attest .. => r

/-- The counters of R118. -/
def IntakeCounters.judged (j : Judgement) (c : IntakeCounters) : IntakeCounters :=
  { c with missing := addMissing c.missing j.missing
           stepBacks := if j.stepBack then satAdd c.stepBacks 1 else c.stepBacks }

/-- The frame is accepted with what the registry found (R116 to R122): the counts, PEER_RETURN, the removal, and last the
peer record, so that the removal's recompute requests come before those for the record's change, an order R64 does not give
(log 38, DESIGN CHOICE). A finalised flag that is cleared and then set again by the frame's contents has changed twice (R64). -/
def State.acceptFrame (f : Frame) (b : Body) (j : Judgement) (s : State) : State :=
  let slot := f.source.toNat
  let s := (s.count (IntakeCounters.judged j)).raiseIf j.returns .peerReturn slot
  let s := if j.drop then s.dropStation slot else s
  let before := s.peer slot
  let kept := if j.drop then before.flagsCleared else before
  let after := (kept.hear f s.silenceBits j.missing).takeContents b
  s.writePeer slot (decide (before.balanceKey ≠ kept.balanceKey ∨ kept.balanceKey ≠ after.balanceKey)) after

/-- A frame the registry discards: counted as foreign from a FOREIGN station, as not-present from an UNHEARD one (R116,
R121). -/
def State.discardFrame (slot : Nat) (s : State) : State :=
  if (s.peer slot).state = .foreign then s.count (fun c => { c with foreign := satAdd c.foreign 1 })
  else s.count (fun c => { c with notPresent := satAdd c.notPresent 1 })

/-- The judgement of a frame (R116 to R122), and whether it passes on to the content check. -/
def State.judge (f : Frame) (b : Body) (s : State) : State × Bool :=
  let slot := f.source.toNat
  let mismatch := match b with
    | .presence p => if s.presenceMatches slot p then none else some p
    | .figure .. | .withdraw .. | .attest .. => none
  match mismatch, (s.peer slot).judge f b with
  | some p, _ => (s.mismatched slot p, false)
  | none, none => (s.discardFrame slot, false)
  | none, some j => (s.acceptFrame f b j, true)

/-! ### Content check (R113, R2) -/

/-- One block as an observation to standardise, if every field is in range (R2). -/
def blockItem (kind : PointKind) (parcel factor : Nat) (e : Epoch) (b : BlockBody) : Option StuItem :=
  match ObsQuals.ofMask b.sourceMask with
  | some quals =>
    if inRange 1 65535 b.revision ∧ b.raw.inRangeFor kind then
      some { parcel := parcel, kind := kind, meterFactor := factor, epoch := e, raw := b.raw,
             source := some (b.revision, { gsv := b.sourceGsv, quals := quals }) }
    else none
  | none => none

/-- Every block, or `none` if one is out of range. -/
def blockItems (kind : PointKind) (parcel factor : Nat) : List (Epoch × BlockBody) → Option (List StuItem)
  | [] => some []
  | (e, b) :: rest =>
    match blockItem kind parcel factor e b, blockItems kind parcel factor rest with
    | some i, some is => some (i :: is)
    | _, _ => none

/-- The kind of point a frame names, if it is the one the station's roster role implies and the point and parcel are good
(R113). -/
def State.kindFor (slot point kindCode parcel : Nat) (s : State) : Option PointKind :=
  match (s.rosterRole slot).pointKind with
  | some kind =>
    if kind.code = kindCode ∧ pointInRange point ∧ s.parcelDefined parcel then some kind else none
  | none => none

/-! ### FIGURE frames (R37 to R41) -/

/-- The judgements of R39. -/
inductive BlockJudgement where
  | store | refresh | conflict | old
deriving DecidableEq, Repr

/-- BLOCK_JUDGEMENT (R39) of a block against the entry's slot of its epoch. -/
def judgeBlock (held : Option PeerObservation) (i : StuItem) : BlockJudgement :=
  match held, i.source with
  | some h, some (revision, src) =>
    if h.obs.revision < revision then .store
    else if revision < h.obs.revision then .old
    else if h.obs.raw = i.raw ∧ h.source = src then .refresh
    else .conflict
  | _, _ => .store

/-- The blocks of a frame with a given judgement against an entry's slots. -/
def judged (slots : Slots PeerObservation) (j : BlockJudgement) (items : List StuItem) : List StuItem :=
  items.filter (fun i => judgeBlock (slots.get i.epoch) i = j)

/-- Set the conflict field of an epoch's slot (R40). -/
def setConflict (slots : Slots PeerObservation) (e : Epoch) : Slots PeerObservation :=
  slots.set e ((slots.get e).map (fun o => { o with conflict := true }))

/-- BLOCK_CONFLICT (R40) for the conflicting blocks of one frame: each counted, each first setting of a flag one change to
the table (log 12), made when the frame is judged (log 36). -/
def State.applyConflicts (e : PeerEntry) (items : List StuItem) (s : State) : State :=
  let fresh := items.filter (fun i => (e.slots.get i.epoch).any (fun o => !o.conflict))
  let slots := fresh.foldl (fun sl i => setConflict sl i.epoch) e.slots
  let table := { s.table.changed fresh.length with
    entries := s.table.entries.map (fun x => if isEntry e.slot e.point x then { x with slots := slots } else x) }
  ({ s with table := table } : State).count (fun c => { c with conflicts := satAdd c.conflicts items.length })

/-- STU_REQUEST by the intake (R17, R41): the frame is being merged until its results are stored. -/
def State.startMerge (slot point : Nat) (kind : PointKind) (parcel factor : Nat) (items : List StuItem) (s : State) :
    State :=
  if items.isEmpty then s
  else { s with
    intake := { s.intake with merging := some (.figure slot point kind parcel factor none) }
    stu := { s.stu with intakeWaiting := some items } }

/-- FIGURE_FRAME_CHECK, TABLE_FULL_DROP and the judgement of the blocks (R37, R38, R39, R40). In a frame that also stores
blocks, the old and conflicting ones are dealt with here, at INTAKE_TAKE_FRAME and before the STU request; R40 gives no
moment for it (log 36, DESIGN CHOICE). -/
def State.figureFrame (slot point : Nat) (kind : PointKind) (parcel factor : Nat) (items : List StuItem) (s : State) :
    State :=
  match s.table.entry? slot point with
  | none =>
    if items.isEmpty then s.countMalformed
    else if Config.peerEntries ≤ s.table.entries.length then
      (s.count (fun c => { c with tableFull := satAdd c.tableFull 1 })).raise .tableFull 0
    else s.startMerge slot point kind parcel factor items
  | some e =>
    if items.isEmpty ∨ e.kind ≠ kind ∨ e.parcel ≠ parcel ∨ e.meterFactor ≠ factor then s.countMalformed
    else
      let s := s.count (fun c =>
        { c with oldRevisions := satAdd c.oldRevisions (judged e.slots .old items).length })
      let s := s.applyConflicts e (judged e.slots .conflict items)
      s.startMerge slot point kind parcel factor (judged e.slots .store items)

/-! ### WITHDRAW frames (R42) -/

/-- WITHDRAW_FRAME_REMOVAL (R42). -/
def State.withdrawFrame (slot point : Nat) (kind : PointKind) (parcel : Nat) (s : State) : State :=
  match s.table.entry? slot point with
  | none => s
  | some e => if e.kind = kind ∧ e.parcel = parcel then s.removeEntries [e] else s.countMalformed

/-! ### Routing (R113) -/

/-- CONTENT_CHECK and the route of an accepted frame (R113). -/
def State.route (slot : Nat) (b : Body) (s : State) : State :=
  match b with
  | .presence _ => s
  | .figure point kindCode parcel factor blocks =>
    match s.kindFor slot point kindCode parcel with
    | some kind =>
      match meterFactorOk kind factor, blockItems kind parcel factor blocks with
      | true, some items => s.figureFrame slot point kind parcel factor items
      | _, _ => s.countMalformed
    | none => s.countMalformed
  | .withdraw point kindCode parcel =>
    match s.kindFor slot point kindCode parcel with
    | some kind => s.withdrawFrame slot point kind parcel
    | none => s.countMalformed
  | .attest parcel epoch theirs =>
    match Epoch.ofAttestCode epoch, s.parcelDefined parcel with
    | some e, true =>
      { s with
        intake := { s.intake with merging := some (.comparison slot parcel e theirs) }
        table := { s.table with hold := { s.table.hold with holder := some .intake } } }
    | _, _ => s.countMalformed

/-- The steps of R111 on the frame taken from the queue. -/
def State.handleFrame (f : Frame) (s : State) : State :=
  let slot := f.source.toNat
  if s.rosterRole slot = .empty then s.count (fun c => { c with unlisted := satAdd c.unlisted 1 })
  else match f.form with
    | none => s.countMalformed
    | some b =>
      match s.judge f b with
      | (s', true) => s'.route slot b
      | (s', false) => s'

/-- INTAKE_TAKE_FRAME (R111): due with the queue not empty, the hold CLEAR and no frame being merged. -/
def State.takeFrame (s : State) : State :=
  match s.intake.queue with
  | [] => s
  | f :: rest =>
    if s.table.hold.isClear ∧ s.intake.merging = none then
      ({ s with intake := { s.intake with queue := rest } } : State).handleFrame f
    else s

def execIntakeTakeFrame (s : State) : Host.Outcome State Fault Refusal := .next s.takeFrame

/-! ### The merge (R41) -/

/-- A stored block (R1, R14, R15, R40): the conflict field is clear. -/
def StuResult.stored (r : StuResult) : Option PeerObservation :=
  r.item.source.map (fun src =>
    { obs := { revision := src.1, raw := r.item.raw, std := r.std }, source := src.2, mismatch := r.mismatch,
      conflict := false })

/-- The slots of an entry with the stored blocks written in (R41). -/
def storeBlocks (slots : Slots PeerObservation) (results : List StuResult) : Slots PeerObservation :=
  results.foldl (fun sl r => match r.stored with
    | some o => sl.set r.item.epoch (some o)
    | none => sl) slots

/-- FRAME_MERGE (R41): due when the results are back and no party has SET the hold (log 9). The store ends the frame's
service at the STU (R18). -/
def State.frameMerge (s : State) : State :=
  match s.intake.merging, s.table.hold.holder with
  | some (.figure slot point kind parcel factor (some results)), none =>
    let old := (s.table.entry? slot point).getD
      { slot := slot, point := point, kind := kind, parcel := parcel, meterFactor := factor, slots := {} }
    let entry := { old with slots := storeBlocks old.slots results }
    let s : State := { s with
      table := { s.table.changed 1 with entries := insertEntry entry s.table.entries }
      stu := s.stu.release .intake
      intake := { s.intake with merging := none } }
    let s := s.request parcel
    let differs := results.any (·.mismatch)
    let s := if differs then s.updatePeer slot (fun r => { r with mismatch := true }) else s
    let s := s.raiseIf differs .computeMismatch slot
    let s := s.raiseIf (results.any (fun r => !r.std.quals.isEmpty)) .limit parcel
    (s.raiseWatch slot point).markEpochs parcel (results.map (·.item.epoch))
  | _, _ => s

def execFrameMerge (s : State) : Host.Outcome State Fault Refusal := .next s.frameMerge

end Sys2Proof.Machine
end

