-- ==== Sys2Proof/Machine/Notices.lean ====
section
/-! DEFINITION. The Notice Unit's requests (chapter 8). -/

namespace Sys2Proof.Machine

/-! ### Enables and edge selects -/

def NoticeUnit.setEnable (k : NoticeKind) (on : Bool) (n : NoticeUnit) : NoticeUnit :=
  { n with enables :=
      if on then n.enables ||| BitVec.ofNat 11 (2 ^ k.number) else n.enables &&& ~~~ BitVec.ofNat 11 (2 ^ k.number) }

/-- NOTICE_ENABLE (R146). -/
def State.noticeEnable (kind setting : Nat) (s : State) : State :=
  match NoticeKind.ofNumber kind, setting with
  | some k, 0 => { s.answerCode .done with notices := s.notices.setEnable k false }
  | some k, 1 => { s.answerCode .done with notices := s.notices.setEnable k true }
  | _, _ => s.answerCode .range

def execNoticeEnable (kind setting : Byte) (s : State) : Host.Outcome State Fault Refusal :=
  .next (s.takeRequest (State.noticeEnable kind.toNat setting.toNat))

/-- EDGE_SELECT (R151). -/
def State.edgeSelect (parcel setting : Nat) (s : State) : State :=
  match EdgeSelect.ofCode setting, parcelInRange parcel with
  | none, _ | _, false => s.answerCode .range
  | some e, true =>
    if s.running && !s.parcelDefined parcel then s.answerCode .noParcel
    else { s.answerCode .done with notices := { s.notices with edges := s.notices.edges.set (parcel - 1) e } }

def execEdgeSelect (parcel setting : Byte) (s : State) : Host.Outcome State Fault Refusal :=
  .next (s.takeRequest (State.edgeSelect parcel.toNat setting.toNat))

/-! ### Service, acknowledgement, reading -/

/-- The three bytes of an entry (R171). -/
def Notice.bytes (n : Notice) : List Byte :=
  beBytes 1 n.kind.number ++ beBytes 1 n.subject ++ beBytes 1 n.count

/-- The entry SERVICE QUERY returns: the first in presentation order whose kind is enabled (R148). -/
def NoticeUnit.served (n : NoticeUnit) : Option Notice := n.pending.find? (fun e => n.enabled e.kind)

/-- SERVICE_QUERY (R148, R171): NONE is kind 0xFF with subject and count 0. -/
def State.serviceQuery (s : State) : State :=
  s.answer .done ((s.notices.served.map Notice.bytes).getD [0xFF, 0, 0])

def execServiceQuery (s : State) : Host.Outcome State Fault Refusal := .next (s.serveRequest State.serviceQuery)

/-- ACKNOWLEDGE (R149). -/
def State.acknowledge (kind subject : Nat) (s : State) : State :=
  match NoticeKind.ofNumber kind with
  | none => s.answerCode .range
  | some k =>
    if !k.subjectOk subject then s.answerCode .range
    else if !s.notices.pending.any (isNotice k subject) then s.answerCode .notFound
    else
      { s.answerCode .done with
        notices := { s.notices with pending := s.notices.pending.filter (fun n => !isNotice k subject n) } }

def execAcknowledge (kind subject : Byte) (s : State) : Host.Outcome State Fault Refusal :=
  .next (s.takeRequest (State.acknowledge kind.toNat subject.toNat))

/-- READ_NOTICES (R150, R171). -/
def State.readNotices (s : State) : State :=
  s.answer .done (beBytes 1 s.notices.pending.length ++ beBytes 2 s.notices.enables.toNat
    ++ s.notices.pending.flatMap Notice.bytes)

def execReadNotices (s : State) : Host.Outcome State Fault Refusal := .next (s.serveRequest State.readNotices)

/-! ### The watch set -/

/-- A key in range (R152). -/
def watchKeyOf (slot point : Nat) : Option WatchKey :=
  if slotInRange slot ∧ pointInRange point then some { slot := slot, point := point } else none

/-- WATCH_ADD (R152): the lowest index that no key holds. -/
def State.watchAdd (slot point : Nat) (s : State) : State :=
  match watchKeyOf slot point with
  | none => s.answerCode .range
  | some key =>
    if (s.notices.watchIndex key).isSome then s.answerCode .duplicate
    else match s.notices.watch.findIdx? (·.isNone) with
      | none => s.answerCode .full
      | some i =>
        { s.answer .done (beBytes 1 i) with notices := { s.notices with watch := s.notices.watch.set i (some key) } }

def execWatchAdd (slot point : Byte) (s : State) : Host.Outcome State Fault Refusal :=
  .next (s.takeRequest (State.watchAdd slot.toNat point.toNat))

/-- WATCH_REMOVE (R153). -/
def State.watchRemove (slot point : Nat) (s : State) : State :=
  match watchKeyOf slot point with
  | none => s.answerCode .range
  | some key =>
    match s.notices.watchIndex key with
    | none => s.answerCode .notFound
    | some i =>
      { s.answerCode .done with notices := { s.notices with watch := s.notices.watch.set i none } }

def execWatchRemove (slot point : Byte) (s : State) : Host.Outcome State Fault Refusal :=
  .next (s.takeRequest (State.watchRemove slot.toNat point.toNat))

end Sys2Proof.Machine
end

