-- ==== Sys2Proof/Decode.lean ====
section
/-! DEFINITION. The byte coding of station port requests (sections 10.2 and 10.4, R156, R157, R170), and the host's
decoder of table words. spec/opcode_table.json gives no row any bits, so no table word spells a command; the request
bytes below are the only coding of a command that the spec gives. -/

namespace Sys2Proof

/-- The request codes of section 10.4; `none` for a row that is an event and not a request. -/
def requestCode : Instr → Option Byte
  | .status => some 0x01
  | .identify => some 0x02
  | .sheetBegin .. => some 0x10
  | .sheetParcel .. => some 0x11
  | .sheetRoster .. => some 0x12
  | .sheetPoint .. => some 0x13
  | .sheetEnd => some 0x14
  | .start => some 0x15
  | .post .. => some 0x20
  | .permit => some 0x21
  | .revoke => some 0x22
  | .withdraw .. => some 0x23
  | .attest .. => some 0x24
  | .finalise => some 0x25
  | .restart => some 0x26
  | .linkReset => some 0x27
  | .serviceQuery => some 0x30
  | .acknowledge .. => some 0x31
  | .noticeEnable .. => some 0x32
  | .edgeSelect .. => some 0x33
  | .watchAdd .. => some 0x34
  | .watchRemove .. => some 0x35
  | .readPoint .. => some 0x40
  | .readEntry .. => some 0x41
  | .readParcel .. => some 0x42
  | .readAttest .. => some 0x43
  | .readPeer .. => some 0x44
  | .readCounters => some 0x45
  | .walk .. => some 0x46
  | .readNotices => some 0x47
  | .powerOnReset .. | .unknownRequest .. | .earlyDeselection .. | .sheetEndComplete | .stuGrant
  | .stuObservationComputed | .postStore | .withdrawalMade | .finaliseMade | .intakeHoldSet | .attestScanComplete
  | .restartChange | .walkRecordTaken | .walkDeselected | .quiet | .claimDecision | .windowEnd | .turnGap | .turnTimeout
  | .sendComplete .. | .clash | .clashMarkEnd | .receptionFailed | .frameReceived .. | .intakeTakeFrame | .frameMerge
  | .comparisonComplete | .balanceTake | .balanceComplete | .silenceTimerExpiry .. | .presenceTimerExpiry
  | .republishTimerExpiry | .dominantLevelRead .. | .claimSlotSample .. | .resetReleased .. => none

/-- How many parameter bytes a request code is followed by (section 10.2); `none` for a code that names no request. -/
def paramBytes (code : Byte) : Option Nat :=
  match code.toNat with
  | 0x01 | 0x02 | 0x14 | 0x15 | 0x21 | 0x22 | 0x25 | 0x26 | 0x27 | 0x30 | 0x45 | 0x47 => some 0
  | 0x10 => some 12
  | 0x11 => some 17
  | 0x12 => some 2
  | 0x13 => some 5
  | 0x20 => some 12
  | 0x23 | 0x40 | 0x42 | 0x44 | 0x46 => some 1
  | 0x24 | 0x31 | 0x32 | 0x33 | 0x34 | 0x35 | 0x43 => some 2
  | 0x41 => some 3
  | _ => none

/-- Two, three and four bytes as one word, most significant byte first (spec 00, "Byte order"). -/
def word16 (a b : Byte) : BitVec 16 := a ++ b
def word24 (a b c : Byte) : BitVec 24 := a ++ b ++ c
def word32 (a b c d : Byte) : BitVec 32 := a ++ b ++ c ++ d

/-- The bytes of a word, most significant byte first. -/
def bytes16 (w : BitVec 16) : List Byte := [w.extractLsb' 8 8, w.extractLsb' 0 8]
def bytes24 (w : BitVec 24) : List Byte := [w.extractLsb' 16 8, w.extractLsb' 8 8, w.extractLsb' 0 8]
def bytes32 (w : BitVec 32) : List Byte :=
  [w.extractLsb' 24 8, w.extractLsb' 16 8, w.extractLsb' 8 8, w.extractLsb' 0 8]

/-- The whole bytes among the bits clocked in so far, most significant bit first (R156). -/
def bytesOfBits : List Bool → List Byte
  | b7 :: b6 :: b5 :: b4 :: b3 :: b2 :: b1 :: b0 :: rest =>
    BitVec.ofBoolListBE [b7, b6, b5, b4, b3, b2, b1, b0] :: bytesOfBits rest
  | _ => []

/-- A request from its code and exactly its parameter bytes (section 10.2). -/
def decodeParams (code : Byte) (params : List Byte) : Option Instr :=
  match code.toNat, params with
  | 0x01, [] => some .status
  | 0x02, [] => some .identify
  | 0x10, [n3, n2, n1, n0, r1, r0, slot, dir, mode, t1, t0, rep] =>
    some (.sheetBegin (word32 n3 n2 n1 n0) (word16 r1 r0) slot dir mode (word16 t1 t0) rep)
  | 0x11, [p, t1, t0, a1, a0, b1, b0, d1, d0, v2, v1, v0, i1, i0, o1, o0, c] =>
    some (.sheetParcel p (word16 t1 t0) (word16 a1 a0) (word16 b1 b0) (word16 d1 d0) (word24 v2 v1 v0)
      (word16 i1 i0) (word16 o1 o0) c)
  | 0x12, [slot, role] => some (.sheetRoster slot role)
  | 0x13, [point, parcel, m2, m1, m0] => some (.sheetPoint point parcel (word24 m2 m1 m0))
  | 0x14, [] => some .sheetEnd
  | 0x15, [] => some .start
  | 0x20, [point, epoch, q3, q2, q1, q0, w3, w2, w1, w0, t1, t0] =>
    some (.post point epoch (word32 q3 q2 q1 q0) (word32 w3 w2 w1 w0) (word16 t1 t0))
  | 0x21, [] => some .permit
  | 0x22, [] => some .revoke
  | 0x23, [point] => some (.withdraw point)
  | 0x24, [parcel, epoch] => some (.attest parcel epoch)
  | 0x25, [] => some .finalise
  | 0x26, [] => some .restart
  | 0x27, [] => some .linkReset
  | 0x30, [] => some .serviceQuery
  | 0x31, [kind, subject] => some (.acknowledge kind subject)
  | 0x32, [kind, setting] => some (.noticeEnable kind setting)
  | 0x33, [parcel, setting] => some (.edgeSelect parcel setting)
  | 0x34, [slot, point] => some (.watchAdd slot point)
  | 0x35, [slot, point] => some (.watchRemove slot point)
  | 0x40, [point] => some (.readPoint point)
  | 0x41, [form, first, second] => some (.readEntry form first second)
  | 0x42, [parcel] => some (.readParcel parcel)
  | 0x43, [parcel, epoch] => some (.readAttest parcel epoch)
  | 0x44, [slot] => some (.readPeer slot)
  | 0x45, [] => some .readCounters
  | 0x46, [index] => some (.walk index)
  | 0x47, [] => some .readNotices
  | _, _ => none

/-- What the bytes clocked in during one selection come to. -/
inductive PortRead where
  /-- a request is taken (an UNKNOWN_REQUEST where the code names none, R157) -/
  | taken (i : Instr)
  /-- no whole byte, or fewer parameter bytes than the code fixes: nothing is taken (R157, R158) -/
  | notTaken
deriving DecidableEq, Repr

/-- The request taken from the bytes of a selection: taken at the last bit of its last parameter byte (R157); bytes after
that are ignored (R156). -/
def decodeRequest (bytes : List Byte) : PortRead :=
  match bytes with
  | [] => .notTaken
  | code :: params =>
    match paramBytes code with
    | none => .taken (.unknownRequest code)
    | some n =>
      match decodeParams code (params.take n) with
      | some i => .taken i
      | none => .notTaken

/-- The parameter bytes of a request in the order of section 10.2; an event has none. -/
def encodeParams : Instr → List Byte
  | .sheetBegin number revision ownSlot direction amendMode silence republish =>
    bytes32 number ++ bytes16 revision ++ [ownSlot, direction, amendMode] ++ bytes16 silence ++ [republish]
  | .sheetParcel parcel tRef a b d vef inner outer custody =>
    [parcel] ++ bytes16 tRef ++ bytes16 a ++ bytes16 b ++ bytes16 d ++ bytes24 vef ++ bytes16 inner ++ bytes16 outer
      ++ [custody]
  | .sheetRoster slot role => [slot, role]
  | .sheetPoint point parcel meterFactor => [point, parcel] ++ bytes24 meterFactor
  | .post point epoch quantity water temperature =>
    [point, epoch] ++ bytes32 quantity ++ bytes32 water ++ bytes16 temperature
  | .withdraw point => [point]
  | .attest parcel epoch => [parcel, epoch]
  | .acknowledge kind subject => [kind, subject]
  | .noticeEnable kind setting => [kind, setting]
  | .edgeSelect parcel setting => [parcel, setting]
  | .watchAdd slot point => [slot, point]
  | .watchRemove slot point => [slot, point]
  | .readPoint point => [point]
  | .readEntry form first second => [form, first, second]
  | .readParcel parcel => [parcel]
  | .readAttest parcel epoch => [parcel, epoch]
  | .readPeer slot => [slot]
  | .walk index => [index]
  | _ => []

/-- The bytes of a request: its code and its parameters; an UNKNOWN_REQUEST is its code alone; `none` for an event. -/
def encodeRequest (i : Instr) : Option (List Byte) :=
  match i with
  | .unknownRequest code => some [code]
  | _ => (requestCode i).map (· :: encodeParams i)

/-- The command a table word spells: none, since no row of spec/opcode_table.json has bits. -/
def decodeTableWord (_nbits _w : Nat) : Option Instr := none

end Sys2Proof
end

