-- ==== Sys2Proof/Machine/Reads.lean ====
section
/-! DEFINITION. The read requests, STATUS, IDENTIFY and the table walk (chapter 9), with the record layouts of R171, and the
selections that take no request (R157, R158). -/

namespace Sys2Proof.Machine

/-! ### Record layouts (R171) -/

/-- An own observation, 25 bytes. -/
def Observation.bytes (o : Observation) : List Byte :=
  beBytes 2 o.revision ++ beBytes 4 o.raw.quantity ++ beBytes 4 o.raw.water ++ beSigned 2 o.raw.temperature
    ++ beBytes 3 o.std.vcf ++ beBytes 4 o.std.gsv ++ beBytes 4 o.std.mass ++ beBytes 2 o.std.quals.mask

/-- A peer observation, 32 bytes. -/
def PeerObservation.bytes (o : PeerObservation) : List Byte :=
  o.obs.bytes ++ beBytes 4 o.source.gsv ++ beBytes 2 o.source.quals.mask
    ++ beBytes 1 ((if o.mismatch then 1 else 0) + (if o.conflict then 2 else 0))

def OwnPoint.bytes (p : OwnPoint) : List Byte :=
  beBytes 1 p.number ++ beBytes 1 p.kind.code ++ beBytes 1 p.parcel ++ beBytes 3 p.meterFactor ++ [flagByte p.withdrawn]
    ++ beBytes 1 p.protection.code ++ beBytes 1 p.slots.mask ++ p.slots.held.flatMap Observation.bytes

def PeerEntry.bytes (e : PeerEntry) : List Byte :=
  beBytes 1 e.kind.code ++ beBytes 1 e.parcel ++ beBytes 3 e.meterFactor ++ beBytes 1 e.slots.mask
    ++ e.slots.held.flatMap PeerObservation.bytes

/-- A record with its key: marker, slot, point (R171). -/
def keyedOwn (ownSlot : Nat) (p : OwnPoint) : List Byte :=
  [1] ++ beBytes 1 ownSlot ++ beBytes 1 p.number ++ p.bytes

def keyedEntry (e : PeerEntry) : List Byte := [2] ++ beBytes 1 e.slot ++ beBytes 1 e.point ++ e.bytes

/-- An optional field: presence byte, then the field, zeros when absent (R171). -/
def optBytes {α : Type} (width : Nat) (f : α → List Byte) (o : Option α) : List Byte :=
  match o with
  | some x => [1] ++ f x
  | none => [0] ++ List.replicate width 0

/-- A parcel record, with the Notice Unit's edge select as its last field (R49, R71). -/
def ParcelRecord.bytes (r : ParcelRecord) (edge : EdgeSelect) : List Byte :=
  beBytes 1 r.parcel ++ beSigned 8 r.result.shipTotal ++ beSigned 8 r.result.custodyTotal
    ++ beSigned 8 r.result.checkTotal ++ beSigned 8 r.result.shipMass ++ beSigned 8 r.result.custodyMass
    ++ beSigned 8 r.result.checkMass ++ beBytes 1 r.result.shipCount ++ beBytes 1 r.result.custodyCount
    ++ beBytes 1 r.result.checkCount ++ beBytes 1 r.result.lackingCount ++ beSigned 8 r.result.shipAdjusted
    ++ beSigned 8 r.result.difference ++ optBytes 4 (beSigned 4) r.result.ratio ++ beBytes 1 r.result.verdict.code
    ++ beBytes 2 r.result.quals.mask ++ [flagByte r.settled] ++ beBytes 1 r.status.code ++ beBytes 4 r.count.toNat
    ++ beBytes 1 r.lastNotified.code ++ beBytes 1 edge.code

def AttestRecord.bytes (r : AttestRecord) : List Byte :=
  beBytes 1 r.parcel ++ beBytes 1 r.epoch.code
    ++ optBytes 8 (fun sum => beBytes 2 sum.count ++ beBytes 6 sum.sum) r.summary
    ++ beBytes 2 r.matching.toNat ++ beBytes 2 r.diverging.toNat ++ [flagByte r.changedSince]

/-- The silence timer as read: the seconds remaining, rounded up, or 0xFFFF while stopped (R171). -/
def timerSeconds (t : Option Nat) : Nat :=
  match t with
  | some bits => (bits + (Config.bitsPerSecond - 1)) / Config.bitsPerSecond
  | none => 0xFFFF

def PeerRecord.bytes (slot : Nat) (r : PeerRecord) : List Byte :=
  beBytes 1 slot ++ beBytes 1 r.state.code
    ++ optBytes 7 (fun h => beBytes 1 h.role.code ++ beBytes 4 h.number ++ beBytes 2 h.revision) r.heard
    ++ optBytes 1 (fun g => [g]) r.generation ++ optBytes 2 (fun b => beBytes 2 b.toNat) r.baseline
    ++ beBytes 1 r.declaredCount ++ [r.declaredMask] ++ [flagByte r.finalised] ++ beBytes 4 r.accepted
    ++ beBytes 4 r.missing ++ beBytes 2 (timerSeconds r.timer) ++ [flagByte r.mismatch]

/-- The STATUS reply (R163, R171). -/
def State.statusBytes (s : State) : List Byte :=
  [flagByte s.port.busy.isSome] ++ beBytes 1 ((s.port.busy.map LongOp.code).getD 0) ++ beBytes 1 s.port.last.code
    ++ beBytes 1 s.sheet.reason ++ beBytes 1 s.sheet.node.code ++ beBytes 4 ((s.header?.map (·.number)).getD 0)
    ++ beBytes 2 ((s.header?.map (·.revision)).getD 0) ++ beBytes 4 s.table.changeCount.toNat
    ++ beBytes 1 s.table.own.length ++ beBytes 1 s.table.entries.length ++ [flagByte (decide (s.lau.line ≠ .off))]
    ++ [flagByte s.lau.mute] ++ beBytes 2 s.pub.sequence.toNat ++ [s.pub.generation] ++ [flagByte s.table.permit]
    ++ beBytes 2 s.notices.enables.toNat ++ [flagByte s.noticeLow]

/-- The IDENTIFY reply (R164, R171). -/
def identifyBytes : List Byte :=
  beBytes 2 Config.familyCode ++ beBytes 1 Config.siliconRevision ++ beBytes 1 Config.linkSlots
    ++ beBytes 1 Config.parcels ++ beBytes 1 Config.ownPoints ++ beBytes 1 Config.peerEntries
    ++ beBytes 1 Config.watchKeys

/-- The thirteen counters in the order of R167. -/
def State.counters (s : State) : List Nat :=
  let c := s.intake.counters
  [s.lau.framesSent, s.lau.clashes, c.checkFailures, c.malformed, c.overruns, c.missing, c.stepBacks, c.unlisted,
   c.notPresent, c.foreign, c.tableFull, c.oldRevisions, c.conflicts]

/-- The READ COUNTERS reply (R167, R171). -/
def State.counterBytes (s : State) : List Byte :=
  s.counters.flatMap (beBytes 4) ++ beBytes 1 s.intake.queue.length ++ [flagByte s.table.permit]

/-! ### Reads (R162) -/

def execStatus (s : State) : Host.Outcome State Fault Refusal :=
  .next (s.serveRequest (fun s => s.answer .done s.statusBytes))

def execIdentify (s : State) : Host.Outcome State Fault Refusal :=
  .next (s.serveRequest (State.answer .done identifyBytes))

def execReadCounters (s : State) : Host.Outcome State Fault Refusal :=
  .next (s.serveRequest (fun s => s.answer .done s.counterBytes))

/-- READ_POINT (R44, R162). -/
def State.readPoint (k : Nat) (s : State) : State :=
  if !s.running then s.answerCode .state
  else if !pointInRange k then s.answerCode .range
  else match s.table.point? k with
    | none => s.answerCode .noPoint
    | some p => s.answer .done p.bytes

def execReadPoint (point : Byte) (s : State) : Host.Outcome State Fault Refusal :=
  .next (s.serveRequest (State.readPoint point.toNat))

/-- A record of the table, own or peer. -/
inductive TableRecord where
  | own (p : OwnPoint)
  | entry (e : PeerEntry)
deriving DecidableEq, Repr

/-- The records in table order (R25). -/
def FigureTable.records (t : FigureTable) : List TableRecord := t.own.map .own ++ t.entries.map .entry

def TableRecord.keyed (ownSlot : Nat) : TableRecord → List Byte
  | .own p => keyedOwn ownSlot p
  | .entry e => keyedEntry e

/-- The record at a table index, with its key (R25). -/
def State.recordAt (s : State) (index : Nat) : Option (List Byte) :=
  (s.table.records[index]?).map (TableRecord.keyed s.ownSlot)

/-- READ_ENTRY (R44, R162): form 0 by key, form 1 by index. -/
def State.readEntry (form first second : Nat) (s : State) : State :=
  if !s.running then s.answerCode .state
  else
    let found (o : Option (List Byte)) : State :=
      match o with
      | some data => s.answer .done data
      | none => s.answerCode .notFound
    match form with
    | 0 =>
      if slotInRange first ∧ pointInRange second then found ((s.table.entry? first second).map keyedEntry)
      else s.answerCode .range
    | 1 => found (s.recordAt first)
    | _ => s.answerCode .range

def execReadEntry (form first second : Byte) (s : State) : Host.Outcome State Fault Refusal :=
  .next (s.serveRequest (State.readEntry form.toNat first.toNat second.toNat))

/-- READ_PARCEL (R162). -/
def State.readParcel (p : Nat) (s : State) : State :=
  if !s.running then s.answerCode .state
  else if !parcelInRange p then s.answerCode .range
  else match s.balance.records.find? (fun r => r.parcel = p) with
    | none => s.answerCode .noParcel
    | some r => s.answer .done (r.bytes (s.notices.edge p))

def execReadParcel (parcel : Byte) (s : State) : Host.Outcome State Fault Refusal :=
  .next (s.serveRequest (State.readParcel parcel.toNat))

/-- READ_ATTEST (R162). -/
def State.readAttest (p epoch : Nat) (s : State) : State :=
  if !s.running then s.answerCode .state
  else match Epoch.ofAttestCode epoch, parcelInRange p with
    | none, _ | _, false => s.answerCode .range
    | some e, true =>
      match s.attest.find? (fun r => r.parcel = p ∧ r.epoch = e) with
      | none => s.answerCode .noParcel
      | some r => s.answer .done r.bytes

def execReadAttest (parcel epoch : Byte) (s : State) : Host.Outcome State Fault Refusal :=
  .next (s.serveRequest (State.readAttest parcel.toNat epoch.toNat))

/-- READ_PEER (R162): in every node state. -/
def State.readPeer (slot : Nat) (s : State) : State :=
  if slotInRange slot then s.answer .done ((s.peers.getD slot PeerRecord.reset).bytes slot) else s.answerCode .range

def execReadPeer (slot : Byte) (s : State) : Host.Outcome State Fault Refusal :=
  .next (s.serveRequest (State.readPeer slot.toNat))

/-! ### The walk (R165) -/

/-- WALK (R165): the opening change count; the records follow one by one. -/
def State.walk (index : Nat) (s : State) : State :=
  if !s.running then s.answerCode .state
  else
    let s := s.answer .done (beBytes 4 s.table.changeCount.toNat)
    { s with port := { s.port with walk := some (.start index) } }

def execWalk (index : Byte) (s : State) : Host.Outcome State Fault Refusal :=
  .next (s.serveRequest (State.walk index.toNat))

/-- A record's place in table order lies after a walk's last key (R165). -/
def TableRecord.after (pos : WalkPos) : TableRecord → Bool
  | .own p =>
    match pos with
    | .afterOwn k => decide (k < p.number)
    | .start _ | .afterEntry _ _ => false
  | .entry e =>
    match pos with
    | .afterEntry sl k => keyBefore sl k e.slot e.point
    | .afterOwn _ => true
    | .start _ => false

/-- The next record of a walk, as the table stands (R165). -/
def FigureTable.nextRecord (t : FigureTable) (pos : WalkPos) : Option TableRecord :=
  match pos with
  | .start index => t.records[index]?
  | .afterOwn _ | .afterEntry _ _ => t.records.find? (TableRecord.after pos)

def TableRecord.pos : TableRecord → WalkPos
  | .own p => .afterOwn p.number
  | .entry e => .afterEntry e.slot e.point

/-- More bytes of the reply, and where the walk stands. -/
def State.stream (data : List Byte) (pos : Option WalkPos) (s : State) : State :=
  { s with port := { s.port with reply := s.port.reply ++ data, walk := pos } }

/-- WALK_RECORD_TAKEN (R165): due while a walk streams; the next record with its key, or the end mark and the closing
change count. -/
def State.walkNext (s : State) : State :=
  match s.port.walk with
  | none => s
  | some pos =>
    match s.table.nextRecord pos with
    | some r => s.stream (r.keyed s.ownSlot) (some r.pos)
    | none => s.stream ([0xFF] ++ beBytes 4 s.table.changeCount.toNat) none

def execWalkRecordTaken (s : State) : Host.Outcome State Fault Refusal := .next s.walkNext

/-- WALK_DESELECTED (R165): the walk ends where it stands. -/
def execWalkDeselected (s : State) : Host.Outcome State Fault Refusal := .next s.newSelection

/-! ### The SDO output (R156, R161) -/

/-- How many bytes come in before the result code goes out: the request code and its parameters (R156); the code alone where
it names no request (R157). -/
def requestBytes (sent : List Byte) : Nat :=
  match sent with
  | [] => 1
  | code :: _ => 1 + (paramBytes code).getD 0

/-- The byte on SDO while the next byte of a selection is clocked, `sent` being the bytes clocked in on SDI before it: 0x00
during the code and its parameters, then the reply, then 0x00 (R156). `none` while SDO is not driven: with SEL high (R156)
and while RESET is asserted (R161); in a selection left over from a reset it is not driven either (log 4). A byte of a WALK
stream stands there once its WALK_RECORD_TAKEN has been given. -/
def State.sdo (selLow : Bool) (sent : List Byte) (s : State) : Option Byte :=
  if !selLow || s.resetAsserted || s.port.ignoring then none
  else if sent.length < requestBytes sent then some 0
  else some (s.port.reply.getD (sent.length - requestBytes sent) 0)

/-- The level of SDO for the next bit, `bits` being those clocked in before it; bytes go most significant bit first
(R156). -/
def State.sdoLevel (selLow : Bool) (bits : List Bool) (s : State) : Option Bool :=
  (s.sdo selLow (bytesOfBits bits)).map (fun b => b.getLsbD (7 - bits.length % 8))

/-! ### Selections that take no request -/

/-- UNKNOWN_REQUEST (R157): answered UNKNOWN, nothing changes; a code that does name a request is no such event. -/
def execUnknownRequest (code : Byte) (s : State) : Host.Outcome State Fault Refusal :=
  .next (if (paramBytes code).isNone then s.serveRequest (State.answerCode .unknown) else s)

/-- EARLY_DESELECTION (R158, R161): SHORT is recorded if a bit was clocked in. While RESET is asserted nothing happens; a
selection left over from the reset only ends. -/
def State.earlyDeselection (bits : Nat) (s : State) : State :=
  if s.resetAsserted then s
  else if s.port.ignoring then { s with port := { s.port with ignoring := false } }
  else
    let s := s.newSelection
    if bits = 0 then s else { s with port := { s.port with last := .short } }

def execEarlyDeselection (bits : Nat) (s : State) : Host.Outcome State Fault Refusal := .next (s.earlyDeselection bits)

end Sys2Proof.Machine
end

