-- ==== Sys2Proof/Machine/StuUnit.lean ====
section
/-! DEFINITION. The Standardisation Unit's arbiter and service (section 1.6). -/

namespace Sys2Proof.Machine

/-- Begin serving a requester's request (R18, R19). -/
def Stu.serve (u : Stu) (r : Requester) (items : List StuItem) : Stu :=
  let u := { u with inService := some { requester := r, todo := items, results := [] }, lastServed := r }
  match r with
  | .port => { u with portWaiting := none }
  | .intake => { u with intakeWaiting := none }

/-- The arbiter (R19): due while the STU is free and a request waits; on a tie the requester the last-served mark does
not name. -/
def Stu.grant (u : Stu) : Stu :=
  if u.inService.isSome then u
  else match u.portWaiting, u.intakeWaiting with
    | none, none => u
    | some items, none => u.serve .port items
    | none, some items => u.serve .intake items
    | some mine, some theirs =>
      match u.lastServed with
      | .port => u.serve .intake theirs
      | .intake => u.serve .port mine

def execStuGrant (s : State) : Host.Outcome State Fault Refusal := .next { s with stu := s.stu.grant }

/-- STU_OBSERVATION_COMPUTED (R18): the next observation of the request in service is standardised with this node's
constants of its parcel; after the last, the results are handed over together. The STU stays with the request until they
are stored (`Stu.release`). -/
def State.stuComputed (s : State) : State :=
  match s.stu.inService with
  | some { requester := r, todo := item :: rest, results := results } =>
    match s.parcelDef? item.parcel with
    | none => s
    | some d =>
      let results := results ++ [serveItem d item]
      let s : State :=
        { s with stu := { s.stu with inService := some { requester := r, todo := rest, results := results } } }
      if rest.isEmpty then s.handResults r results else s
  | _ => s

def execStuObservationComputed (s : State) : Host.Outcome State Fault Refusal := .next s.stuComputed

end Sys2Proof.Machine
end

