-- ==== Sys2Proof/Machine/Dispatch.lean ====
section
/-! DEFINITION. One arm per command; every arm is one direct call of the command's meaning. -/

namespace Sys2Proof.Machine

def exec (i : Instr) (s : State) : Host.Outcome State Fault Refusal :=
  match i with
  | .powerOnReset byInput => Sys2Proof.Machine.execPowerOnReset byInput s
  | .unknownRequest code => Sys2Proof.Machine.execUnknownRequest code s
  | .earlyDeselection bits => Sys2Proof.Machine.execEarlyDeselection bits s
  | .status => Sys2Proof.Machine.execStatus s
  | .identify => Sys2Proof.Machine.execIdentify s
  | .sheetBegin number revision ownSlot direction amendMode silence republish => Sys2Proof.Machine.execSheetBegin number revision ownSlot direction amendMode silence republish s
  | .sheetParcel parcel tRef a b d vef inner outer custody => Sys2Proof.Machine.execSheetParcel parcel tRef a b d vef inner outer custody s
  | .sheetRoster slot role => Sys2Proof.Machine.execSheetRoster slot role s
  | .sheetPoint point parcel meterFactor => Sys2Proof.Machine.execSheetPoint point parcel meterFactor s
  | .sheetEnd => Sys2Proof.Machine.execSheetEnd s
  | .sheetEndComplete => Sys2Proof.Machine.execSheetEndComplete s
  | .start => Sys2Proof.Machine.execStart s
  | .post point epoch quantity water temperature => Sys2Proof.Machine.execPost point epoch quantity water temperature s
  | .stuGrant => Sys2Proof.Machine.execStuGrant s
  | .stuObservationComputed => Sys2Proof.Machine.execStuObservationComputed s
  | .postStore => Sys2Proof.Machine.execPostStore s
  | .permit => Sys2Proof.Machine.execPermit s
  | .revoke => Sys2Proof.Machine.execRevoke s
  | .withdraw point => Sys2Proof.Machine.execWithdraw point s
  | .withdrawalMade => Sys2Proof.Machine.execWithdrawalMade s
  | .finalise => Sys2Proof.Machine.execFinalise s
  | .finaliseMade => Sys2Proof.Machine.execFinaliseMade s
  | .attest parcel epoch => Sys2Proof.Machine.execAttest parcel epoch s
  | .intakeHoldSet => Sys2Proof.Machine.execIntakeHoldSet s
  | .attestScanComplete => Sys2Proof.Machine.execAttestScanComplete s
  | .restart => Sys2Proof.Machine.execRestart s
  | .restartChange => Sys2Proof.Machine.execRestartChange s
  | .linkReset => Sys2Proof.Machine.execLinkReset s
  | .serviceQuery => Sys2Proof.Machine.execServiceQuery s
  | .acknowledge kind subject => Sys2Proof.Machine.execAcknowledge kind subject s
  | .noticeEnable kind setting => Sys2Proof.Machine.execNoticeEnable kind setting s
  | .edgeSelect parcel setting => Sys2Proof.Machine.execEdgeSelect parcel setting s
  | .watchAdd slot point => Sys2Proof.Machine.execWatchAdd slot point s
  | .watchRemove slot point => Sys2Proof.Machine.execWatchRemove slot point s
  | .readPoint point => Sys2Proof.Machine.execReadPoint point s
  | .readEntry form first second => Sys2Proof.Machine.execReadEntry form first second s
  | .readParcel parcel => Sys2Proof.Machine.execReadParcel parcel s
  | .readAttest parcel epoch => Sys2Proof.Machine.execReadAttest parcel epoch s
  | .readPeer slot => Sys2Proof.Machine.execReadPeer slot s
  | .readCounters => Sys2Proof.Machine.execReadCounters s
  | .readNotices => Sys2Proof.Machine.execReadNotices s
  | .walk index => Sys2Proof.Machine.execWalk index s
  | .walkRecordTaken => Sys2Proof.Machine.execWalkRecordTaken s
  | .walkDeselected => Sys2Proof.Machine.execWalkDeselected s
  | .quiet => Sys2Proof.Machine.execQuiet s
  | .claimDecision => Sys2Proof.Machine.execClaimDecision s
  | .windowEnd => Sys2Proof.Machine.execWindowEnd s
  | .turnGap => Sys2Proof.Machine.execTurnGap s
  | .turnTimeout => Sys2Proof.Machine.execTurnTimeout s
  | .sendComplete stopDominant => Sys2Proof.Machine.execSendComplete stopDominant s
  | .clash => Sys2Proof.Machine.execClash s
  | .clashMarkEnd => Sys2Proof.Machine.execClashMarkEnd s
  | .receptionFailed => Sys2Proof.Machine.execReceptionFailed s
  | .frameReceived bytes => Sys2Proof.Machine.execFrameReceived bytes s
  | .intakeTakeFrame => Sys2Proof.Machine.execIntakeTakeFrame s
  | .frameMerge => Sys2Proof.Machine.execFrameMerge s
  | .comparisonComplete => Sys2Proof.Machine.execComparisonComplete s
  | .balanceTake => Sys2Proof.Machine.execBalanceTake s
  | .balanceComplete => Sys2Proof.Machine.execBalanceComplete s
  | .silenceTimerExpiry slot => Sys2Proof.Machine.execSilenceTimerExpiry slot s
  | .presenceTimerExpiry => Sys2Proof.Machine.execPresenceTimerExpiry s
  | .republishTimerExpiry => Sys2Proof.Machine.execRepublishTimerExpiry s
  | .dominantLevelRead startBit => Sys2Proof.Machine.execDominantLevelRead startBit s
  | .claimSlotSample slot dominant => Sys2Proof.Machine.execClaimSlotSample slot dominant s
  | .resetReleased selLow => Sys2Proof.Machine.execResetReleased selLow s

end Sys2Proof.Machine
end

