-- ==== Sys2Proof/Safety.lean ====
section
/-! DEFINITION. What the statements say of states: when the port takes a request, what a refusal leaves, and the invariants
that every step keeps, each from the rule it cites. -/

namespace Sys2Proof.Machine

/-! ### The port -/

/-- RESET is not asserted and no selection left over from it is under way: a request is taken (R157, R161). -/
abbrev State.takes (s : State) : Prop := s.resetAsserted = false ∧ s.port.ignoring = false

/-- The port takes requests and no long operation is in flight (R159). -/
abbrev State.portIdle (s : State) : Prop := s.takes ∧ s.port.busy = none

/-- The state after a request that only answers (R157): its result code and data, any earlier walk ended, nothing else. -/
def State.answered (s : State) (code : ResultCode) (data : List Byte) : State :=
  { s with port := { s.port with walk := none, reply := BitVec.ofNat 8 code.code :: data } }

/-- The state after a long operation is accepted (R159): ACCEPTED, BUSY with the operation, nothing else. -/
def State.accepted (s : State) (op : LongOp) : State :=
  { s with port := { s.port with walk := none, reply := [0x01], busy := some op, last := .busy } }

/-- The result of the first condition of a refusal table that applies; `none` when none does (R29, R33, R76, R160). -/
def firstRefusal : List (Bool × ResultCode) → Option ResultCode
  | [] => none
  | (applies, code) :: rest => if applies then some code else firstRefusal rest

/-- The state after a request checked against a refusal table: the first refusal that applies, or the state given. -/
def State.checked (s : State) (table : List (Bool × ResultCode)) (taken : State) : State :=
  match firstRefusal table with
  | some code => s.answered code []
  | none => taken

/-- `n` bytes of a reply or a body from an offset, as an unsigned value (section 10). -/
def fieldAt (bytes : List Byte) (offset n : Nat) : Nat := beNat (slice bytes offset n)

/-- The requests served while BUSY (R160). -/
def servedWhileBusy : Instr → Bool
  | .status | .identify | .readPoint _ | .readEntry _ _ _ | .readParcel _ | .readAttest _ _ | .readPeer _
  | .readCounters | .walk _ | .serviceQuery | .readNotices => true
  | _ => false

/-- A station port request of section 10.4. -/
def isRequest (i : Instr) : Bool := (requestCode i).isSome

/-! ### The link -/

/-- `i` is the lowest slot of a set at or above a bound (R93, R94, R96). -/
abbrev IsLowest (set : BitVec 16) (bound i : Nat) : Prop :=
  bound ≤ i ∧ set.getLsbD i = true ∧ ∀ j, bound ≤ j → j < i → set.getLsbD j = false

/-- The turn pointer is at the lowest claimant at or above a bound, or at none where there is none (R94, R96). -/
abbrev PointsTo (set : BitVec 16) (bound : Nat) (pointer : Option Nat) : Prop :=
  (∃ i, pointer = some i ∧ IsLowest set bound i) ∨ (pointer = none ∧ ∀ j, bound ≤ j → set.getLsbD j = false)

/-- The LAU in SEEK with no claim, no pointer and no claim word (R96, R98, R103; log 13), its quiet count given. -/
def Lau.seeking (l : Lau) (quiet : Nat) : Lau :=
  { l with line := .seek, quietCount := quiet, claimWord := 0, ownClaim := false, pointer := none, decided := false,
           claiming := false, lineClear := true, gapPassed := false, sentInRound := false }

/-- The frame at the head of the queue can be taken: the hold is CLEAR and no frame is being merged (R111). -/
abbrev State.intakeReady (s : State) (f : Frame) (rest : List Frame) : Prop :=
  s.intake.queue = f :: rest ∧ s.table.hold = { holder := none, waiting := false } ∧ s.intake.merging = none

/-- A PRESENCE body matches: the roster role of its slot, this node's sheet number and revision (R116); any other body is no
mismatch. -/
def Body.agrees (s : State) (slot : Nat) : Body → Prop
  | .presence p => p.role = s.rosterRole slot ∧ ∃ h, s.header? = some h ∧ h.number = p.number ∧ h.revision = p.revision
  | .figure .. | .withdraw .. | .attest .. => True

/-- A frame that the Peer Registry accepts from a PRESENT or ABSENT station, whatever it finds of its generation and sequence
(R111, R112, R117, R118, R120): it passes the source and form checks and does not mismatch. -/
abbrev State.accepts (s : State) (f : Frame) (rest : List Frame) (b : Body) : Prop :=
  s.intakeReady f rest ∧ s.rosterRole f.source.toNat ≠ .empty ∧ f.form = some b ∧ b.agrees s f.source.toNat
    ∧ ((s.peer f.source.toNat).state = .present ∨ (s.peer f.source.toNat).state = .absent)

/-! ### The Peer Registry (R43, R86, R122) -/

/-- What the removal of a station's entries and memberships leaves (R43, R86): its entries gone as one change, if it had any;
its slot in no matching or diverging set; a changed-since mark for each attested epoch that a removed entry held; WATCH for
each watched key removed; and one request for each parcel that had an entry of it, in ascending order. The rest stays, the
entries of other stations among it. -/
def State.stationRemoved (s : State) (slot : Nat) : State :=
  let gone := s.table.entries.filter (fun e => decide (e.slot = slot))
  let entries := s.table.entries.filter (fun e => decide (e.slot ≠ slot))
  let leave : BitVec 16 → BitVec 16 := fun set => set &&& ~~~ BitVec.ofNat 16 (2 ^ slot)
  { s with
    table := { s.table with
      entries := entries
      changeCount := if gone = [] then s.table.changeCount else s.table.changeCount + 1 }
    attest := s.attest.map (fun r => { r with
      matching := leave r.matching, diverging := leave r.diverging
      changedSince := r.changedSince || decide (r.epoch ≠ .interim
        ∧ ∃ e ∈ gone, e.parcel = r.parcel ∧ (e.slots.get r.epoch).isSome = true) })
    notices := gone.foldl (fun n e => n.raiseWatch { slot := slot, point := e.point }) s.notices
    balance := ([1, 2, 3, 4, 5, 6, 7, 8].filter (fun p => decide (∃ e ∈ gone, e.parcel = p))).foldl
      (BalanceEngine.request { own := s.table.own, entries := entries, peers := s.peers, node := s.sheet.node }) s.balance }

/-- A recompute request for every parcel of the sheet, in ascending order (R64), where a condition holds, given with the peer
records as they are from now on. -/
def State.requestingAll (s : State) (peers : List PeerRecord) (given : Prop) [Decidable given] : BalanceEngine :=
  if given then
    (s.balance.records.map (·.parcel)).foldl
      (BalanceEngine.request { own := s.table.own, entries := s.table.entries, peers := peers, node := s.sheet.node })
      s.balance
  else s.balance

/-- What an accepted frame's body sets of its station's record: the contents of a PRESENCE (R122), of another frame
nothing. -/
def PeerRecord.announced (b : Body) (r : PeerRecord) : PeerRecord :=
  match b with
  | .presence p => { r with
      heard := some { role := p.role, number := p.number, revision := p.revision }
      declaredCount := p.count, declaredMask := p.mask, finalised := p.final }
  | .figure .. | .withdraw .. | .attest .. => r

/-- A FIGURE frame's body. -/
def Body.isFigure : Body → Bool
  | .figure .. => true
  | .presence .. | .withdraw .. | .attest .. => false

/-- The peer record after an accepted frame (R115 to R122): PRESENT with the frame's generation and sequence, the silence
timer at the sheet's timeout, the accepted count and the frames missing raised, its flags cleared where the station's
entries went, and last what the body sets. -/
def PeerRecord.accepting (r : PeerRecord) (f : Frame) (b : Body) (timeout missing : Nat) (dropped : Bool) : PeerRecord :=
  PeerRecord.announced b { r with
    state := .present, generation := some f.generation, baseline := some f.sequence, timer := some timeout
    accepted := min 4294967295 (r.accepted + 1)
    missing := if missing = 0 then r.missing else min 4294967295 (r.missing + missing)
    mismatch := r.mismatch && !dropped, finalised := r.finalised && !dropped }

/-- An accepted frame changed a field the Balance Engine reads of its station's record (R64, R115): the state, a finalised
flag cleared with the entries or set anew, or a declared value. -/
abbrev PeerRecord.keyMoved (r after : PeerRecord) (dropped : Bool) : Prop :=
  r.state ≠ after.state ∨ (dropped = true ∧ r.finalised = true) ∨ after.finalised ≠ (r.finalised && !dropped)
    ∨ r.declaredCount ≠ after.declaredCount ∨ r.declaredMask ≠ after.declaredMask

/-- The gap of R118 between a frame and its station's baseline; 0 where there is no baseline (log 25). -/
def PeerRecord.gap (r : PeerRecord) (f : Frame) : Nat := (r.baseline.map (fun base => (f.sequence - base - 1).toNat)).getD 0

/-- What the Peer Registry leaves when it accepts a frame of a PRESENT or ABSENT station, before the content check (R117,
R118, R120, R122). The sequence is judged for a PRESENT station with its generation kept; a step-back and another generation
take the station's entries and memberships (R43, R86); an ABSENT station is back with PEER_RETURN. -/
def State.registered (s : State) (f : Frame) (rest : List Frame) (b : Body) : State :=
  let slot := f.source.toNat
  let r := s.peer slot
  let gap := if r.state = .present ∧ r.generation = some f.generation then r.gap f else 0
  let back := decide (32768 ≤ gap)
  let drop := back || decide (r.generation ≠ some f.generation)
  let missing := if back then 0 else gap
  let returned : State :=
    if r.state = .absent then { s with notices := s.notices.raise .peerReturn slot } else s
  let removed := if drop then returned.stationRemoved slot else returned
  let after := r.accepting f b s.silenceBits missing drop
  let heard : State := { removed with
    peers := s.peers.set slot after
    intake := { s.intake with queue := rest, counters := { s.intake.counters with
      missing := if missing = 0 then s.intake.counters.missing else min 4294967295 (s.intake.counters.missing + missing)
      stepBacks := if back then min 4294967295 (s.intake.counters.stepBacks + 1) else s.intake.counters.stepBacks } } }
  { heard with balance := heard.requestingAll heard.peers (r.keyMoved after drop) }

/-! ### Moved quantities (R52) -/

/-- The latest observation of a point whose OPENING is `o`: CLOSING, else INTERIM, else the OPENING (R52). -/
def ViewPoint.latest (v : ViewPoint) (o : Standard) : Standard :=
  match v.slots.closing, v.slots.interim with
  | some c, _ => c
  | none, some i => i
  | none, none => o

/-- R52's table: what a point moved of a value (GSV or mass), by its kind and the sheet's direction; 0 where the OPENING is
absent. -/
def ViewPoint.moved (dir : Direction) (value : Standard → Nat) (v : ViewPoint) : Int :=
  match v.slots.opening with
  | none => 0
  | some o =>
    match v.kind, dir with
    | .shipTank, .discharge | .shoreTank, .loading => (value o : Int) - value (v.latest o)
    | .shipTank, .loading | .shoreTank, .discharge | .meter, _ => (value (v.latest o) : Int) - value o

/-! ### Table order (R25, R165) -/

/-- The place of a record: own points by number, then entries by slot and point. -/
def TableRecord.place : TableRecord → Nat
  | .own p => p.number
  | .entry e => 24 + 24 * e.slot + e.point

/-- A walk's key lies in the ranges of R23 and R24. -/
abbrev WalkPos.inRange : WalkPos → Prop
  | .start _ => True
  | .afterOwn k => k < 24
  | .afterEntry slot point => slot < 16 ∧ point < 24

/-- A record of a table is the one a walk takes next: the one at the start index, or the first whose place follows the key's
(R165). -/
def TableRecord.isNext (r : TableRecord) (records : List TableRecord) : WalkPos → Prop
  | .start index => records[index]? = some r
  | .afterOwn k => k < r.place ∧ ∀ q ∈ records, k < q.place → r.place ≤ q.place
  | .afterEntry slot point =>
    24 + 24 * slot + point < r.place ∧ ∀ q ∈ records, 24 + 24 * slot + point < q.place → r.place ≤ q.place

/-! ### Invariants -/

/-- Strictly ascending numbers. -/
abbrev Ascending (l : List Nat) : Prop := l.Pairwise (· < ·)

/-- R143, R144, R150: the pending set holds no two notices of one kind and subject, stands in presentation order, and no
repeat count exceeds 255. -/
abbrev PendingOk (ns : List Notice) : Prop :=
  (ns.map (fun n => (n.kind, n.subject))).Nodup
    ∧ ns.Pairwise (fun m n => presentedBefore m.kind m.subject n = true)
    ∧ ∀ n ∈ ns, n.count ≤ 255

/-- R131 to R135: the held sheet's definitions are in range and in ascending number, with a role for each slot. -/
abbrev SheetOk (sh : Sheet) : Prop :=
  sh.header.inRange = true ∧ sh.roster.length = 16
    ∧ Ascending (sh.parcels.map (·.number)) ∧ (∀ p ∈ sh.parcels, p.inRange = true)
    ∧ Ascending (sh.points.map (·.number)) ∧ (∀ p ∈ sh.points, p.inRange = true)

/-- R140: a sheet is held in every state but BLANK, and it is a good one; a SHEET END is in flight in LOADING only (R136), any
other long operation in ACTIVE or FINAL only (R29, R33, R36, R76, R104, R141). -/
abbrev SheetInv (s : State) : Prop :=
  (s.sheet.node = .blank ↔ s.sheet.sheet = none) ∧ (∀ sh ∈ s.sheet.sheet, SheetOk sh)
    ∧ ∀ op ∈ s.port.busy, if op = .sheetEnd then s.sheet.node = .loading else s.running = true

/-- R22, R90, R138, R147: before START and after a power-on reset every block but the Sheet Store, the Notice Unit's settings
and the Station Port has its power-on values, and no notice is pending. -/
abbrev IdleInv (s : State) : Prop :=
  s.running = false →
    s.stu = Stu.reset ∧ s.table = FigureTable.reset ∧ s.balance = BalanceEngine.reset ∧ s.attest = []
      ∧ s.lau = Lau.reset ∧ s.intake = FrameIntake.reset ∧ s.peers = List.replicate 16 PeerRecord.reset
      ∧ s.pub = Publisher.reset ∧ s.notices.pending = []

/-- Every subject there is (R124): PRESENCE, 24 points, 16 attest subjects. -/
def allSubjects : List Subject :=
  .presence :: (List.range 24).map .point
    ++ parcelNumbers.flatMap (fun p => [.attest p .opening, .attest p .closing])

/-- The long operation is an ATTEST (R78). -/
def isAttest : Option LongOp → Bool
  | some (.attest _ _) => true
  | _ => false

/-- A frame being merged is an ATTEST frame under comparison (R82). -/
def isComparison : Option Merge → Bool
  | some (.comparison _ _ _ _) => true
  | _ => false

/-- R74, R76: an ATTEST in flight names a parcel and an attested epoch. -/
def LongOp.subjectOk : LongOp → Bool
  | .attest p e => decide (p ∈ parcelNumbers ∧ e ∈ attestedEpochs)
  | _ => true

/-- The station whose frame is being merged. -/
def Merge.slot : Merge → Nat
  | .figure slot _ _ _ _ _ => slot
  | .comparison slot _ _ _ => slot

/-- R24, R38: a FIGURE frame being merged has a key in range, and an entry of that key or room for a new one. -/
def Merge.hasRoom (t : FigureTable) : Merge → Bool
  | .figure slot point _ _ _ _ =>
    decide (slot < 16 ∧ point < 24 ∧ (t.entry? slot point = none → t.entries.length < 160))
  | .comparison _ _ _ _ => true

/-- R23, R74, R124: the records that subjects are named by, and the transmit job queue without two jobs for one
subject. -/
abbrev TransmitInv (s : State) : Prop :=
  SheetInv s ∧ IdleInv s
    ∧ Ascending (s.table.own.map (·.number)) ∧ (∀ p ∈ s.table.own, p.number < 24)
    ∧ (s.attest.map (fun r => (r.parcel, r.epoch))).Nodup
    ∧ (∀ r ∈ s.attest, r.parcel ∈ parcelNumbers ∧ r.epoch ∈ attestedEpochs)
    ∧ (∀ op ∈ s.port.busy, op.subjectOk = true)
    ∧ (s.pub.queue.map (·.subject)).Nodup
    ∧ ∀ j ∈ s.pub.queue, j.subject ∈ allSubjects

/-- R74: no station slot is in both sets of an attest record. -/
abbrev SetsDisjoint (s : State) : Prop := ∀ r ∈ s.attest, r.matching &&& r.diverging = 0

/-- R24, R74, R95, R115: nothing of the node's own slot is heard: no frame in the queue or being merged, no entry, no
membership, and its peer record keeps its power-on values. -/
abbrev OwnSlotInv (s : State) : Prop :=
  SheetInv s ∧ IdleInv s ∧ s.peer s.ownSlot = PeerRecord.reset
    ∧ (∀ f ∈ s.intake.queue, f.source.toNat ≠ s.ownSlot)
    ∧ (∀ m ∈ s.intake.merging, m.slot ≠ s.ownSlot)
    ∧ (∀ e ∈ s.table.entries, e.slot ≠ s.ownSlot)
    ∧ (∀ r ∈ s.attest, slotIn r.matching s.ownSlot = false ∧ slotIn r.diverging s.ownSlot = false)

/-- R24, R25: peer entries in ascending key without two of one key, keys in range, never more than 160, and room for the
entry that a frame at the STU will create. -/
abbrev TableInv (s : State) : Prop :=
  s.table.entries.Pairwise (fun d e => keyBefore d.slot d.point e.slot e.point = true)
    ∧ (∀ e ∈ s.table.entries, e.slot < 16 ∧ e.point < 24)
    ∧ s.table.entries.length ≤ 160
    ∧ ∀ m ∈ s.intake.merging, m.hasRoom s.table = true

/-- R64, R65: parcel records in ascending number, the recompute queue without a parcel twice, and a parcel in it exactly when
its status is QUEUED. -/
abbrev QueueInv (b : BalanceEngine) : Prop :=
  Ascending (b.records.map (·.parcel)) ∧ b.queue.Nodup ∧ (∀ p ∈ b.queue, p ∈ b.records.map (·.parcel))
    ∧ ∀ r ∈ b.records, r.status = .queued ↔ r.parcel ∈ b.queue

/-- R65, R66: the queue as QueueInv says, and a parcel COMPUTING or COMPUTING_REDO exactly when it is the one being
computed. -/
abbrev BalanceInv (s : State) : Prop :=
  SheetInv s ∧ IdleInv s ∧ QueueInv s.balance
    ∧ (∀ p ∈ s.balance.computing, p ∈ s.balance.records.map (·.parcel))
    ∧ ∀ r ∈ s.balance.records,
        (r.status = .computing ∨ r.status = .computingRedo) ↔ s.balance.computing = some r.parcel

/-- R38, R49: the table, and each reading kept for a computation, hold at most 24 own points and 160 entries, and the counts
of a parcel record come to at most 184 together. -/
abbrev CountsInv (s : State) : Prop :=
  TransmitInv s ∧ TableInv s ∧ OwnSlotInv s
    ∧ (∀ v ∈ s.balance.seen, v.own.length ≤ 24 ∧ v.entries.length ≤ 160)
    ∧ ∀ r ∈ s.balance.records,
        r.result.shipCount + r.result.custodyCount + r.result.checkCount + r.result.lackingCount ≤ 184

/-- R115, R119: sixteen peer records, one per slot, and a silence timer runs exactly while its station is PRESENT. -/
abbrev PeersInv (s : State) : Prop :=
  s.peers.length = 16 ∧ ∀ r ∈ s.peers, r.timer.isSome = true ↔ r.state = .present

/-- R90, R101, R138: the LAU is OFF exactly while the node does not take part, and a MUTE node drives nothing. -/
abbrev LineInv (s : State) : Prop :=
  SheetInv s ∧ (s.lau.line = .off ↔ s.running = false)
    ∧ (s.lau.claiming = true → s.lau.line = .window)
    ∧ (s.lau.mute = true → s.lau.lde = false)

/-- R27, R78, R82: the Frame Intake holds the hold exactly while it compares an ATTEST frame; the Attestation Unit holds it
or waits for it exactly while an ATTEST is in flight, and holds it only while no frame is being merged. -/
abbrev HoldInv (s : State) : Prop :=
  (s.table.hold.holder = some .intake ↔ isComparison s.intake.merging = true)
    ∧ ((s.table.hold.waiting = true ∨ s.table.hold.holder = some .attestation) ↔ isAttest s.port.busy = true)
    ∧ (s.table.hold.holder = some .attestation → s.intake.merging = none ∧ s.table.hold.waiting = false)

/-- R32, R34, R140: under amend mode NONE the permit stays clear, and in FINAL every own slot is protected. -/
abbrev ProtectionInv (s : State) : Prop :=
  SheetInv s ∧ IdleInv s
    ∧ (s.amendMode = .none → s.table.permit = false)
    ∧ (s.sheet.node = .final → ∀ p ∈ s.table.own, p.protection = .throughClosing)

end Sys2Proof.Machine
end

