-- ==== Sys2Proof/WellFormed.lean ====
section
/-! DEFINITION. Well-formed commands: operands that the event named can have. A request's parameter words are always
well-formed (R170 gives a refusal for each bad value). `exec` has a meaning for the other operands too. -/

namespace Sys2Proof

/-- The longest selection before its request is taken: a SHEET PARCEL of 18 bytes (section 10.2). -/
def longestRequestBits : Nat := 144

def Instr.wellFormed : Instr → Bool
  /- R157: the code names no request. -/
  | .unknownRequest code => (paramBytes code).isNone
  /- R158: at least one bit, and fewer than the longest request has. -/
  | .earlyDeselection bits => 1 ≤ bits && bits < longestRequestBits
  /- Section 10.1: a frame has 8 bytes beside its body, and a body of at most 61. -/
  | .frameReceived bytes => 8 ≤ bytes.length && bytes.length ≤ 69
  | _ => true

end Sys2Proof
end

