-- ==== Sys2Proof/Certificates/Slice0/Obligations.lean ====
section
/-! DEFINITION. The statements for the provers, in the order of OBLIGATIONS.json. Each says in its docstring which section or
rule of spec/ it formalises, and which log entry stands for a choice of the model's. -/

section

open Sys2Proof Sys2Proof.Machine

/-- O1. For every command and state, a step of the state with that command at the front of its queue is the command's
meaning on the state with the queue's rest. (The queue is the model's own, log 3.) Derived from
95_what_each_step_holds.md, opening: the steps are whole and indivisible. -/
def Obligations.StepRunsFrontCommand : Prop :=
  ∀ (c : Instr) (s : State), step { s with pending := c :: s.pending } = exec c s

/-- O2. While RESET is asserted, and during a selection left over from it, no request and no unknown code changes
anything. A code that names no request is answered UNKNOWN. An early deselection with a bit clocked records SHORT,
without one nothing; it ends an ignored selection (log 6). Deselection ends a walk. RESET_RELEASED ends the reset and
notes whether a selection is under way. While a long operation is in flight every request outside the served list is
answered BUSY; a served one other than STATUS does with any busy state what it does with any other. Nothing else
changes. Derived from 09 section 9.1 (R157, R158); 09 section 9.3 (R159, R160, R161); 09 section 9.6 (R165). -/
def Obligations.PortRefusesUnderResetAndWhileBusy : Prop :=
  (∀ (c : Instr) (s : State), (isRequest c = true ∨ ∃ code, c = .unknownRequest code) →
      (s.resetAsserted = true ∨ s.port.ignoring = true) → exec c s = .next s)
  ∧ (∀ (code : Byte) (s : State), s.takes → paramBytes code = none →
      exec (.unknownRequest code) s = .next (s.answered .unknown []))
  ∧ (∀ (bits : Nat) (s : State), s.takes →
      exec (.earlyDeselection bits) s =
        .next { s with port := { s.port with walk := none, last := if bits = 0 then s.port.last else .short } })
  ∧ (∀ (bits : Nat) (s : State), s.resetAsserted = true → exec (.earlyDeselection bits) s = .next s)
  ∧ (∀ (bits : Nat) (s : State), s.resetAsserted = false → s.port.ignoring = true →
      exec (.earlyDeselection bits) s = .next { s with port := { s.port with ignoring := false } })
  ∧ (∀ (s : State), exec .walkDeselected s = .next { s with port := { s.port with walk := none } })
  ∧ (∀ (selLow : Bool) (s : State), s.resetAsserted = true →
      exec (.resetReleased selLow) s =
        .next { s with resetAsserted := false, port := { s.port with ignoring := selLow } })
  ∧ (∀ (c : Instr) (s : State), isRequest c = true → servedWhileBusy c = false → s.takes → s.port.busy.isSome = true →
      exec c s = .next (s.answered .busy []))
  ∧ (∀ (c : Instr) (s t : State) (op : Option LongOp), servedWhileBusy c = true → c ≠ .status → exec c s = .next t →
      exec c { s with port := { s.port with busy := op } } = .next { t with port := { t.port with busy := op } })

/-- O3. After POWER_ON_RESET every field has the power-on value of its chapter's reset table, RESET is asserted
exactly when the input caused it, LDE and NOTICE are released and LTX is recessive. The fields that are the model's
own (logs 4, 11, 16, 27) have the model's values; the queue of commands and the counter of free values stay. (The
level of LTX while LDE is released: log 39.) Derived from 01 section 1.6 (R20); 02 section 2.6 (R45); 03 section 3.7
(R72); 05 section 5.7 (R105); 06 sections 6.2 to 6.4 (R110, R114, R115, R130); 07 section 7.4 (R142); 08 section 8.7
(R155); 09 section 9.7 (R166). -/
def Obligations.PowerOnValues : Prop :=
  ∀ (byInput : Bool) (s : State), ∃ t : State,
    exec (.powerOnReset byInput) s = .next t
    ∧ t.sheet = { node := .blank, sheet := none, reason := 0 }
    ∧ t.stu = { inService := none, portWaiting := none, intakeWaiting := none, lastServed := .intake }
    ∧ t.table = { own := [], entries := [], permit := false, hold := { holder := none, waiting := false },
                  changeCount := 0, postResult := none }
    ∧ t.balance = { records := [], queue := [], computing := none, seen := [] }
    ∧ t.attest = []
    ∧ t.lau = { line := .off, quietCount := 0, claimWord := 0, ownClaim := false, pointer := none, mute := false,
                clashRun := 0, failureRun := 0, framesSent := 0, clashes := 0, decided := false, claiming := false,
                lineClear := true, gapPassed := false, sentInRound := false }
    ∧ t.intake = { queue := [], merging := none,
                   counters := { checkFailures := 0, overruns := 0, unlisted := 0, malformed := 0, notPresent := 0,
                                 foreign := 0, missing := 0, stepBacks := 0, tableFull := 0, oldRevisions := 0,
                                 conflicts := 0 } }
    ∧ t.peers = List.replicate 16
        { state := .unheard, heard := none, generation := none, baseline := none, declaredCount := 0, declaredMask := 0,
          finalised := false, accepted := 0, missing := 0, timer := none, mismatch := false }
    ∧ t.pub = { queue := [], rotation := none, presenceTimer := none, republishTimer := none, sequence := 0,
                generation := 0 }
    ∧ t.notices = { pending := [], enables := 0x7FF#11, edges := List.replicate 8 .worse,
                    watch := List.replicate 16 none }
    ∧ t.port = { busy := none, last := .done, walk := none, ignoring := false, reply := [] }
    ∧ t.resetAsserted = byInput ∧ t.freeIx = s.freeIx ∧ t.pending = s.pending
    ∧ t.lau.lde = false ∧ t.lau.ltx = false ∧ t.noticeLow = false

/-- O4. IDENTIFY, whatever the node state and whether or not the port is BUSY, is answered DONE with 0x4216, 1, 16, 8,
24, 160, 16 in the layout of the Formats chapter, and changes nothing else. Rules R164. -/
def Obligations.IdentifyReply : Prop :=
  ∀ (s : State), s.takes →
    exec .identify s = .next (s.answered .done [0x42, 0x16, 1, 16, 8, 24, 160, 16])

/-- O5. With the values in range, each field of the STATUS reply (26 bytes) and of the READ COUNTERS reply (54 bytes)
reads as the state's value at the offset the Formats chapter gives, the NOTICE bit tells whether a pending entry's
kind is enabled, and neither request changes anything but the reply. The codes of operations, results and node states
are those of section 10.4, and every answer begins with its result's code. Derived from 09 section 9.5 (R163); 09
section 9.8 (R167); 10 section 10.3 (R171); 08 section 8.3 (R147); 10 section 10.4. -/
def Obligations.StatusAndCountersReplies : Prop :=
  let operation : LongOp → Nat := fun op => match op with
    | .sheetEnd => 0x14 | .post _ => 0x20 | .withdraw _ => 0x23 | .attest _ _ => 0x24 | .finalise => 0x25
    | .restart => 0x26 | .linkReset => 0x27
  let result : ResultCode → Nat := fun code => match code with
    | .done => 0x00 | .accepted => 0x01 | .busy => 0x02 | .state => 0x03 | .unknown => 0x04 | .short => 0x05
    | .range => 0x06 | .noPoint => 0x07 | .noParcel => 0x08 | .withdrawn => 0x09 | .order => 0x0A | .closed => 0x0B
    | .isProtected => 0x0C | .noPermit => 0x0D | .revisionLimit => 0x0E | .incomplete => 0x0F | .sheetInvalid => 0x10
    | .duplicate => 0x11 | .full => 0x12 | .notFound => 0x13 | .finalised => 0x14
  let node : NodeState → Nat := fun n => match n with
    | .blank => 0 | .loading => 1 | .loaded => 2 | .active => 3 | .final => 4
  (∀ (s : State), s.takes → s.table.own.length ≤ 24 → s.table.entries.length ≤ 160 → s.sheet.reason ≤ 8 →
      (∀ sh ∈ s.sheet.sheet, sh.header.number ≤ 4294967295 ∧ sh.header.revision ≤ 65535) →
      ∃ d : List Byte, exec .status s = .next (s.answered .done d) ∧ d.length = 26
        ∧ fieldAt d 0 1 = (if s.port.busy.isSome then 1 else 0)
        ∧ (∀ op ∈ s.port.busy, fieldAt d 1 1 = operation op) ∧ (s.port.busy = none → fieldAt d 1 1 = 0)
        ∧ fieldAt d 2 1 = result s.port.last
        ∧ fieldAt d 3 1 = s.sheet.reason
        ∧ fieldAt d 4 1 = node s.sheet.node
        ∧ (∀ sh ∈ s.sheet.sheet, fieldAt d 5 4 = sh.header.number ∧ fieldAt d 9 2 = sh.header.revision)
        ∧ (s.sheet.sheet = none → fieldAt d 5 4 = 0 ∧ fieldAt d 9 2 = 0)
        ∧ fieldAt d 11 4 = s.table.changeCount.toNat
        ∧ fieldAt d 15 1 = s.table.own.length ∧ fieldAt d 16 1 = s.table.entries.length
        ∧ fieldAt d 17 1 = (if s.lau.line = .off then 0 else 1)
        ∧ fieldAt d 18 1 = (if s.lau.mute then 1 else 0)
        ∧ fieldAt d 19 2 = s.pub.sequence.toNat ∧ fieldAt d 21 1 = s.pub.generation.toNat
        ∧ fieldAt d 22 1 = (if s.table.permit then 1 else 0)
        ∧ fieldAt d 23 2 = s.notices.enables.toNat
        ∧ (fieldAt d 25 1 = 1 ∨ fieldAt d 25 1 = 0)
        ∧ (fieldAt d 25 1 = 1 ↔ ∃ n ∈ s.notices.pending, s.notices.enables.getLsbD n.kind.number = true))
  ∧ (∀ (s : State), s.takes → s.intake.queue.length ≤ 16 →
      let values := [s.lau.framesSent, s.lau.clashes, s.intake.counters.checkFailures, s.intake.counters.malformed,
        s.intake.counters.overruns, s.intake.counters.missing, s.intake.counters.stepBacks, s.intake.counters.unlisted,
        s.intake.counters.notPresent, s.intake.counters.foreign, s.intake.counters.tableFull,
        s.intake.counters.oldRevisions, s.intake.counters.conflicts]
      (∀ v ∈ values, v ≤ 4294967295) →
      ∃ d : List Byte, exec .readCounters s = .next (s.answered .done d) ∧ d.length = 54
        ∧ (∀ i : Fin 13, fieldAt d (4 * i.val) 4 = values.getD i.val 0)
        ∧ fieldAt d 52 1 = s.intake.queue.length
        ∧ fieldAt d 53 1 = (if s.table.permit then 1 else 0))
  ∧ (∀ (code : ResultCode) (data : List Byte) (s : State),
      (s.answered code data).port.reply = BitVec.ofNat 8 (result code) :: data)

/-- O6. READ POINT, READ ENTRY, READ PARCEL and READ ATTEST are refused with STATE, then RANGE, then NO_POINT,
NOT_FOUND or NO_PARCEL; READ PEER with RANGE. Otherwise each returns the record held, READ ENTRY that of the key or of
the table index behind its three-byte key. Parcel, attest and peer records have 85, 16 and 29 bytes: each field reads
at its offset as the record's value, an absent ratio, summary, heard value, generation or baseline as a presence byte
0 and zeros, a running silence timer as its seconds rounded up. Nothing but the reply changes. Derived from 09 section
9.4 (R162); 02 sections 2.1, 2.5 (R25, R44); 10 section 10.3 (R171); 10 section 10.4. -/
def Obligations.ReadsReturnTheRecordsHeld : Prop :=
  (∀ (point : Byte) (s : State), s.takes →
      let found := s.table.own.find? (fun p => decide (p.number = point.toNat))
      exec (.readPoint point) s =
        .next (s.checked
          [(!s.running, .state), (decide (23 < point.toNat), .range), (found.isNone, .noPoint)]
          (s.answered .done ((found.map OwnPoint.bytes).getD []))))
  ∧ (∀ (slot point : Byte) (s : State), s.takes →
      let found := s.table.entries.find? (fun e => decide (e.slot = slot.toNat ∧ e.point = point.toNat))
      exec (.readEntry 0 slot point) s =
        .next (s.checked
          [(!s.running, .state), (decide (15 < slot.toNat ∨ 23 < point.toNat), .range), (found.isNone, .notFound)]
          (s.answered .done ((found.map (fun e => [2, slot, point] ++ e.bytes)).getD []))))
  ∧ (∀ (index ignored : Byte) (s : State), s.takes →
      let own := s.table.own.map (fun p => [1, BitVec.ofNat 8 s.ownSlot, BitVec.ofNat 8 p.number] ++ p.bytes)
      let peer := s.table.entries.map (fun e => [2, BitVec.ofNat 8 e.slot, BitVec.ofNat 8 e.point] ++ e.bytes)
      let found := (own ++ peer)[index.toNat]?
      exec (.readEntry 1 index ignored) s =
        .next (s.checked [(!s.running, .state), (found.isNone, .notFound)] (s.answered .done (found.getD []))))
  ∧ (∀ (form first second : Byte) (s : State), s.takes → 1 < form.toNat →
      exec (.readEntry form first second) s =
        .next (s.answered (if s.running then .range else .state) []))
  ∧ (∀ (parcel : Byte) (s : State), s.takes →
      let found := s.balance.records.find? (fun r => decide (r.parcel = parcel.toNat))
      exec (.readParcel parcel) s =
        .next (s.checked
          [(!s.running, .state), (decide (parcel.toNat < 1 ∨ 8 < parcel.toNat), .range), (found.isNone, .noParcel)]
          (s.answered .done ((found.map (fun r => r.bytes (s.notices.edges.getD (parcel.toNat - 1) .worse))).getD []))))
  ∧ (∀ (parcel epoch : Byte) (s : State), s.takes →
      let e : Epoch := if epoch = 1 then .opening else .closing
      let found := s.attest.find? (fun r => decide (r.parcel = parcel.toNat ∧ r.epoch = e))
      exec (.readAttest parcel epoch) s =
        .next (s.checked
          [(!s.running, .state),
           (decide (parcel.toNat < 1 ∨ 8 < parcel.toNat ∨ (epoch ≠ 1 ∧ epoch ≠ 3)), .range),
           (found.isNone, .noParcel)]
          (s.answered .done ((found.map AttestRecord.bytes).getD []))))
  ∧ (∀ (slot : Byte) (s : State), s.takes →
      exec (.readPeer slot) s =
        .next (s.checked [(decide (15 < slot.toNat), .range)]
          (s.answered .done ((s.peers.getD slot.toNat PeerRecord.reset).bytes slot.toNat))))
  ∧ (∀ (r : ParcelRecord) (edge : EdgeSelect), (r.bytes edge).length = 85
      ∧ (r.result.ratio = none → slice (r.bytes edge) 69 5 = [0, 0, 0, 0, 0])
      ∧ (∀ v ∈ r.result.ratio, fieldAt (r.bytes edge) 69 1 = 1
          ∧ (-99999 ≤ v ∧ v ≤ 99999 → (BitVec.ofNat 32 (fieldAt (r.bytes edge) 70 4)).toInt = v))
      ∧ (let f := fieldAt (r.bytes edge)
         let q := r.result.quals
         let signed := fun (at_ : Nat) (v : Int) =>
           -9223372036854775808 ≤ v → v ≤ 9223372036854775807 → (BitVec.ofNat 64 (f at_ 8)).toInt = v
         (r.parcel ≤ 8 → f 0 1 = r.parcel)
         ∧ signed 1 r.result.shipTotal ∧ signed 9 r.result.custodyTotal ∧ signed 17 r.result.checkTotal
         ∧ signed 25 r.result.shipMass ∧ signed 33 r.result.custodyMass ∧ signed 41 r.result.checkMass
         ∧ (r.result.shipCount ≤ 255 → f 49 1 = r.result.shipCount)
         ∧ (r.result.custodyCount ≤ 255 → f 50 1 = r.result.custodyCount)
         ∧ (r.result.checkCount ≤ 255 → f 51 1 = r.result.checkCount)
         ∧ (r.result.lackingCount ≤ 255 → f 52 1 = r.result.lackingCount)
         ∧ signed 53 r.result.shipAdjusted ∧ signed 61 r.result.difference
         ∧ f 74 1 = (match r.result.verdict with | .noBasis => 0 | .within => 1 | .marginal => 2 | .outside => 3)
         ∧ (f 75 2).testBit 8 = q.isPartial ∧ (f 75 2).testBit 9 = q.stale ∧ (f 75 2).testBit 10 = q.limited
         ∧ (f 75 2).testBit 11 = q.closed ∧ (f 75 2).testBit 12 = q.definitive ∧ f 75 2 % 256 = 0 ∧ f 75 2 < 8192
         ∧ f 77 1 = (if r.settled then 1 else 0)
         ∧ f 78 1 = (match r.status with | .idle => 0 | .queued => 1 | .computing => 2 | .computingRedo => 3)
         ∧ f 79 4 = r.count.toNat
         ∧ f 83 1 = (match r.lastNotified with | .noBasis => 0 | .within => 1 | .marginal => 2 | .outside => 3)
         ∧ f 84 1 = (match edge with | .worse => 0 | .better => 1 | .both => 2 | .none => 3)))
  ∧ (∀ (r : AttestRecord), r.bytes.length = 16
      ∧ (r.parcel ≤ 8 → fieldAt r.bytes 0 1 = r.parcel)
      ∧ fieldAt r.bytes 1 1 = (match r.epoch with | .opening => 1 | .interim => 2 | .closing => 3)
      ∧ fieldAt r.bytes 15 1 = (if r.changedSince then 1 else 0)
      ∧ (r.summary = none → slice r.bytes 2 9 = List.replicate 9 0)
      ∧ (∀ v ∈ r.summary, fieldAt r.bytes 2 1 = 1
          ∧ (v.count ≤ 65535 → fieldAt r.bytes 3 2 = v.count) ∧ (v.sum < 2 ^ 48 → fieldAt r.bytes 5 6 = v.sum))
      ∧ fieldAt r.bytes 11 2 = r.matching.toNat ∧ fieldAt r.bytes 13 2 = r.diverging.toNat)
  ∧ (∀ (slot : Nat) (r : PeerRecord), (r.bytes slot).length = 29
      ∧ (r.heard = none → slice (r.bytes slot) 2 8 = List.replicate 8 0)
      ∧ (r.generation = none → slice (r.bytes slot) 10 2 = [0, 0])
      ∧ (r.baseline = none → slice (r.bytes slot) 12 3 = [0, 0, 0])
      ∧ (∀ g ∈ r.generation, slice (r.bytes slot) 10 2 = [1, g])
      ∧ (r.timer = none → fieldAt (r.bytes slot) 26 2 = 0xFFFF)
      ∧ (∀ n : Nat, n ≤ 300 → r.timer = some (n * 250000) → fieldAt (r.bytes slot) 26 2 = n)
      ∧ (∀ bits seconds : Nat, r.timer = some bits → seconds ≤ 300 → bits ≤ seconds * 250000 →
          seconds * 250000 < bits + 250000 → fieldAt (r.bytes slot) 26 2 = seconds)
      ∧ (let f := fieldAt (r.bytes slot)
         (slot ≤ 15 → f 0 1 = slot)
         ∧ f 1 1 = (match r.state with | .unheard => 0 | .present => 1 | .absent => 2 | .foreign => 3)
         ∧ (∀ h ∈ r.heard, f 2 1 = 1
             ∧ f 3 1 = (match h.role with | .empty => 0 | .ship => 1 | .shoreTanks => 2 | .shoreMeters => 3 | .survey => 4)
             ∧ (h.number ≤ 4294967295 → f 4 4 = h.number) ∧ (h.revision ≤ 65535 → f 8 2 = h.revision))
         ∧ (∀ base ∈ r.baseline, f 12 1 = 1 ∧ f 13 2 = base.toNat)
         ∧ (r.declaredCount ≤ 24 → f 15 1 = r.declaredCount) ∧ f 16 1 = r.declaredMask.toNat
         ∧ f 17 1 = (if r.finalised then 1 else 0)
         ∧ (r.accepted ≤ 4294967295 → f 18 4 = r.accepted) ∧ (r.missing ≤ 4294967295 → f 22 4 = r.missing)
         ∧ f 28 1 = (if r.mismatch then 1 else 0)))

/-- O7. With the values in range, the own point record is 9 + 25 n bytes and the peer entry record 6 + 32 n bytes for
n held slots; each field, and each field of the i-th held observation in epoch order, reads back as the record's value
at its offset, signed values in two's complement. The codes of kinds, protection levels and epochs are those of
section 10.4. (Which bit of the slot mask stands for which epoch: log 37.) Derived from 10 section 10.3 (R171); 10
section 10.4. -/
def Obligations.ObservationRecordLayouts : Prop :=
  let kind : PointKind → Nat := fun k => match k with
    | .shipTank => 1 | .shoreTank => 2 | .meter => 3
  let level : Protection → Nat := fun l => match l with
    | .none => 0 | .throughOpening => 1 | .throughClosing => 2
  let inRange := fun (o : Observation) => o.revision ≤ 65535 ∧ o.raw.quantity ≤ 4294967295 ∧ o.raw.water ≤ 4294967295
    ∧ -32768 ≤ o.raw.temperature ∧ o.raw.temperature ≤ 32767 ∧ o.std.vcf ≤ 16777215 ∧ o.std.gsv ≤ 4294967295
    ∧ o.std.mass ≤ 4294967295
  let reads := fun (d : List Byte) (at_ : Nat) (o : Observation) => fieldAt d at_ 2 = o.revision
    ∧ fieldAt d (at_ + 2) 4 = o.raw.quantity ∧ fieldAt d (at_ + 6) 4 = o.raw.water
    ∧ (BitVec.ofNat 16 (fieldAt d (at_ + 10) 2)).toInt = o.raw.temperature ∧ fieldAt d (at_ + 12) 3 = o.std.vcf
    ∧ fieldAt d (at_ + 15) 4 = o.std.gsv ∧ fieldAt d (at_ + 19) 4 = o.std.mass
    ∧ (fieldAt d (at_ + 23) 2).testBit 0 = o.std.quals.waterClamp ∧ (fieldAt d (at_ + 23) 2).testBit 1 = o.std.quals.dtClamp
    ∧ (fieldAt d (at_ + 23) 2).testBit 2 = o.std.quals.vcfClamp ∧ (fieldAt d (at_ + 23) 2).testBit 3 = o.std.quals.gsvSat
    ∧ (fieldAt d (at_ + 23) 2).testBit 4 = o.std.quals.massSat ∧ fieldAt d (at_ + 23) 2 < 32
  (∀ p : OwnPoint, p.number ≤ 23 → p.parcel ≤ 8 → p.meterFactor ≤ 110000 →
      p.bytes.length = 9 + 25 * p.slots.held.length
      ∧ fieldAt p.bytes 0 1 = p.number ∧ fieldAt p.bytes 1 1 = kind p.kind ∧ fieldAt p.bytes 2 1 = p.parcel
      ∧ fieldAt p.bytes 3 3 = p.meterFactor ∧ fieldAt p.bytes 6 1 = (if p.withdrawn then 1 else 0)
      ∧ fieldAt p.bytes 7 1 = level p.protection
      ∧ (fieldAt p.bytes 8 1).testBit 0 = p.slots.opening.isSome ∧ (fieldAt p.bytes 8 1).testBit 1 = p.slots.interim.isSome
      ∧ (fieldAt p.bytes 8 1).testBit 2 = p.slots.closing.isSome ∧ fieldAt p.bytes 8 1 < 8
      ∧ ∀ (i : Nat) (o : Observation), p.slots.held[i]? = some o → inRange o → reads p.bytes (9 + 25 * i) o)
  ∧ (∀ e : PeerEntry, e.parcel ≤ 8 → e.meterFactor ≤ 110000 →
      e.bytes.length = 6 + 32 * e.slots.held.length
      ∧ fieldAt e.bytes 0 1 = kind e.kind ∧ fieldAt e.bytes 1 1 = e.parcel ∧ fieldAt e.bytes 2 3 = e.meterFactor
      ∧ (fieldAt e.bytes 5 1).testBit 0 = e.slots.opening.isSome ∧ (fieldAt e.bytes 5 1).testBit 1 = e.slots.interim.isSome
      ∧ (fieldAt e.bytes 5 1).testBit 2 = e.slots.closing.isSome ∧ fieldAt e.bytes 5 1 < 8
      ∧ ∀ (i : Nat) (o : PeerObservation), e.slots.held[i]? = some o → inRange o.obs → o.source.gsv ≤ 4294967295 →
          reads e.bytes (6 + 32 * i) o.obs
          ∧ fieldAt e.bytes (6 + 32 * i + 25) 4 = o.source.gsv
          ∧ fieldAt e.bytes (6 + 32 * i + 29) 2 = o.source.quals.mask
          ∧ (fieldAt e.bytes (6 + 32 * i + 31) 1).testBit 0 = o.mismatch
          ∧ (fieldAt e.bytes (6 + 32 * i + 31) 1).testBit 1 = o.conflict)
  ∧ (∀ k : PointKind, k.code = kind k)
  ∧ (∀ e : Epoch, e.code = (match e with | .opening => 1 | .interim => 2 | .closing => 3))

/-- O8. WALK is refused with STATE before START and otherwise answered DONE with the change count. The first record
taken is the one at the start index. After a key, the record taken is the first whose place follows the key's place as
the table then stands; where none follows, the end mark and the closing count are sent and the walk ends. Each record
comes behind its three-byte key, own points before entries. Only the reply and the walk's place change. (When the
start index is resolved: log 17.) Derived from 09 section 9.6 (R165); 02 section 2.1 (R25). -/
def Obligations.WalkFollowsTheTableByKey : Prop :=
  (∀ (index : Byte) (s : State), s.takes →
      exec (.walk index) s =
        .next (s.checked [(!s.running, .state)]
          { s with port := { s.port with walk := some (.start index.toNat),
                                         reply := 0 :: beBytes 4 s.table.changeCount.toNat } }))
  ∧ (∀ (s : State), s.port.walk = none → exec .walkRecordTaken s = .next s)
  ∧ (∀ (s : State) (pos : WalkPos), s.port.walk = some pos →
      Ascending (s.table.own.map (·.number)) → (∀ p ∈ s.table.own, p.number < 24) →
      s.table.entries.Pairwise (fun d e => keyBefore d.slot d.point e.slot e.point = true) →
      (∀ e ∈ s.table.entries, e.slot < 16 ∧ e.point < 24) → pos.inRange →
      (∀ r ∈ s.table.records, r.isNext s.table.records pos →
        exec .walkRecordTaken s =
          .next { s with port := { s.port with reply := s.port.reply ++ r.keyed s.ownSlot, walk := some r.pos } })
      ∧ ((∀ r ∈ s.table.records, ¬ r.isNext s.table.records pos) →
        exec .walkRecordTaken s =
          .next { s with port := { s.port with
            reply := s.port.reply ++ ([0xFF] ++ beBytes 4 s.table.changeCount.toNat), walk := none } }))
  ∧ (∀ t : FigureTable, t.records = t.own.map TableRecord.own ++ t.entries.map TableRecord.entry)
  ∧ (∀ (slot : Nat) (p : OwnPoint), (TableRecord.own p).keyed slot
      = [1, BitVec.ofNat 8 slot, BitVec.ofNat 8 p.number] ++ p.bytes)
  ∧ (∀ (slot : Nat) (e : PeerEntry), (TableRecord.entry e).keyed slot
      = [2, BitVec.ofNat 8 e.slot, BitVec.ofNat 8 e.point] ++ e.bytes)

/-- O9. SHEET BEGIN is refused with STATE in ACTIVE and FINAL and with RANGE when a field lies outside its range,
nothing changing. Otherwise the old sheet is gone, the new header is held, all sixteen roster slots are EMPTY, no
parcel and no point is defined, the validation reason is 0, the node is in LOADING and the answer is DONE. Rules R131,
R132. -/
def Obligations.SheetBeginStartsAFreshSheet : Prop :=
  ∀ (number : BitVec 32) (revision : BitVec 16) (ownSlot direction amendMode : Byte) (silence : BitVec 16)
    (republish : Byte) (s : State), s.portIdle →
    exec (.sheetBegin number revision ownSlot direction amendMode silence republish) s =
      .next (s.checked
        [(decide (s.sheet.node = .active ∨ s.sheet.node = .final), .state),
         (decide (number.toNat < 1 ∨ 15 < ownSlot.toNat ∨ 1 < direction.toNat ∨ 2 < amendMode.toNat
            ∨ silence.toNat < 20 ∨ 300 < silence.toNat ∨ republish.toNat < 1 ∨ 60 < republish.toNat), .range)]
        { s.answered .done [] with
          sheet :=
            { node := .loading, reason := 0
              sheet := some
                { header :=
                    { number := number.toNat, revision := revision.toNat, ownSlot := ownSlot.toNat
                      direction := if direction = 0 then .discharge else .loading
                      amendMode := if amendMode = 0 then .each else if amendMode = 1 then .held else .none
                      silence := silence.toNat, republish := republish.toNat }
                  parcels := [], roster := List.replicate 16 .empty, points := [] } } })

/-- O10. In LOADING each definition request with every field in range is answered DONE and defines its parcel, slot or
point, replacing an earlier definition of that number whole and leaving every other definition; a bad field is refused
with RANGE and any other node state with STATE, nothing changing. Derived from 07 section 7.1 (R133, R134, R135). -/
def Obligations.SheetDefinitionsAreTakenInLoading : Prop :=
  (∀ (parcel : Byte) (tRef a b d : BitVec 16) (vef : BitVec 24) (inner outer : BitVec 16) (custody : Byte) (s : State),
    s.portIdle →
    let definition : ParcelDef :=
      { number := parcel.toNat, tRef := tRef.toInt, a := a.toNat, b := b.toNat, d := d.toNat, vef := vef.toNat
        inner := inner.toNat, outer := outer.toNat, custody := if custody = 0 then .tanks else .meters }
    exec (.sheetParcel parcel tRef a b d vef inner outer custody) s =
      .next (s.checked
        [(decide (s.sheet.node ≠ .loading), .state),
         (decide (parcel.toNat < 1 ∨ 8 < parcel.toNat ∨ tRef.toInt < -1000 ∨ 4000 < tRef.toInt ∨ 3000 < a.toNat
            ∨ 2000 < b.toNat ∨ d.toNat < 5000 ∨ 11000 < d.toNat ∨ vef.toNat < 95000 ∨ 105000 < vef.toNat
            ∨ 5000 < inner.toNat ∨ 5000 < outer.toNat ∨ outer.toNat < inner.toNat ∨ 1 < custody.toNat), .range)]
        { s.answered .done [] with sheet := { s.sheet with sheet := s.sheet.sheet.map (fun sh =>
            { sh with parcels := upsert ParcelDef.number definition sh.parcels }) } }))
  ∧ (∀ (slot role : Byte) (s : State), s.portIdle →
      let named : Role := [Role.empty, .ship, .shoreTanks, .shoreMeters, .survey].getD role.toNat .empty
      exec (.sheetRoster slot role) s =
        .next (s.checked
          [(decide (s.sheet.node ≠ .loading), .state), (decide (15 < slot.toNat ∨ 4 < role.toNat), .range)]
          { s.answered .done [] with sheet := { s.sheet with sheet := s.sheet.sheet.map (fun sh =>
              { sh with roster := sh.roster.set slot.toNat named }) } }))
  ∧ (∀ (point parcel : Byte) (meterFactor : BitVec 24) (s : State), s.portIdle →
      let definition : PointDef := { number := point.toNat, parcel := parcel.toNat, meterFactor := meterFactor.toNat }
      exec (.sheetPoint point parcel meterFactor) s =
        .next (s.checked
          [(decide (s.sheet.node ≠ .loading), .state),
           (decide (23 < point.toNat ∨ parcel.toNat < 1 ∨ 8 < parcel.toNat
              ∨ (meterFactor.toNat ≠ 0 ∧ (meterFactor.toNat < 90000 ∨ 110000 < meterFactor.toNat))), .range)]
          { s.answered .done [] with sheet := { s.sheet with sheet := s.sheet.sheet.map (fun sh =>
              { sh with points := upsert PointDef.number definition sh.points }) } }))
  ∧ (∀ (x : ParcelDef) (xs : List ParcelDef) (n : Nat),
      (upsert ParcelDef.number x xs).find? (fun y => decide (y.number = n))
        = if n = x.number then some x else xs.find? (fun y => decide (y.number = n)))
  ∧ (∀ (x : PointDef) (xs : List PointDef) (n : Nat),
      (upsert PointDef.number x xs).find? (fun y => decide (y.number = n))
        = if n = x.number then some x else xs.find? (fun y => decide (y.number = n)))

/-- O11. SHEET END is refused with STATE outside LOADING and otherwise accepted. At completion, the first failing
check of the eight gives SHEET_INVALID and the validation reason, the node and the sheet staying; with all passing the
node moves to LOADED with DONE and reason 0. Nothing else changes. (The model's choices: the reason of an earlier
SHEET END stays until the completion, log 34; the checks read the sheet at the completion, log 35.) Derived from 07
section 7.2 (R136, R137). -/
def Obligations.SheetEndValidatesInOrder : Prop :=
  (∀ (s : State), s.portIdle →
      exec .sheetEnd s = .next (s.checked [(decide (s.sheet.node ≠ .loading), .state)] (s.accepted .sheetEnd)))
  ∧ (∀ (s : State) (sh : Sheet), s.port.busy = some .sheetEnd → s.sheet.sheet = some sh →
      let own := sh.roster.getD sh.header.ownSlot .empty
      let checks : List Bool :=
        [ decide (0 < sh.parcels.length),
          decide (own ≠ .empty),
          decide (own = .survey → sh.points.length = 0),
          decide (own ≠ .survey → 0 < sh.points.length),
          decide (∀ p ∈ sh.points, ∃ d ∈ sh.parcels, d.number = p.parcel),
          decide (∀ p ∈ sh.points, if own = .shoreMeters then 90000 ≤ p.meterFactor ∧ p.meterFactor ≤ 110000
            else p.meterFactor = 0),
          decide (∃ r ∈ sh.roster, r = .ship),
          decide (∃ r ∈ sh.roster, r = .shoreTanks ∨ r = .shoreMeters) ]
      (∀ i : Fin 8, (∀ j : Fin 8, j < i → checks.getD j.val true = true) → checks.getD i.val true = false →
        exec .sheetEndComplete s =
          .next { s with sheet := { s.sheet with reason := i.val + 1 }
                         port := { s.port with busy := none, last := .sheetInvalid } })
      ∧ ((∀ i : Fin 8, checks.getD i.val true = true) →
        exec .sheetEndComplete s =
          .next { s with sheet := { s.sheet with node := .loaded, reason := 0 }
                         port := { s.port with busy := none, last := .done } }))

/-- O12. START is refused with STATE outside LOADED. In LOADED it moves the node to ACTIVE, creates one own point
record per defined point with the kind of the own role, one parcel record and two attest records per defined parcel
with the values of R50 and R75, raises the change count by one, moves the LAU to SEEK with quiet count 0, gives
PRESENCE, starts the 8 s and republish timers, and is answered DONE. Nothing else changes. Derived from 07 section 7.3
(R138); 02 section 2.1 (R23, R47); 03 section 3.1 (R50); 04 section 4.1 (R75); 05 section 5.2 (R90); 06 section 6.4
(R129). -/
def Obligations.StartBringsTheBlocksIntoBeing : Prop :=
  (∀ (s : State), s.portIdle → s.sheet.node ≠ .loaded → exec .start s = .next (s.answered .state []))
  ∧ (∀ (s : State) (sh : Sheet), s.portIdle → s.sheet.node = .loaded → s.sheet.sheet = some sh →
      let own := sh.roster.getD sh.header.ownSlot .empty
      let records := fun (kind : PointKind) => sh.points.map (fun d =>
        ({ number := d.number, kind := kind, parcel := d.parcel, meterFactor := d.meterFactor, withdrawn := false
           slots := { opening := none, interim := none, closing := none }, protection := .none } : OwnPoint))
      exec .start s = .next { s.answered .done [] with
        sheet := { s.sheet with node := .active }
        table := { s.table with
          changeCount := s.table.changeCount + 1
          own := if own = .ship then records .shipTank else if own = .shoreTanks then records .shoreTank
            else if own = .shoreMeters then records .meter else [] }
        balance := { s.balance with records := sh.parcels.map (fun d =>
          { parcel := d.number, settled := false, status := .idle, count := 0, lastNotified := .noBasis
            result :=
              { shipTotal := 0, custodyTotal := 0, checkTotal := 0, shipMass := 0, custodyMass := 0, checkMass := 0
                shipCount := 0, custodyCount := 0, checkCount := 0, lackingCount := 0, shipAdjusted := 0, difference := 0
                ratio := none, verdict := .noBasis
                quals := { isPartial := false, stale := false, limited := false, closed := false,
                           definitive := false } } }) }
        attest := sh.parcels.flatMap (fun d => [Epoch.opening, .closing].map (fun e =>
          { parcel := d.number, epoch := e, summary := none, matching := 0, diverging := 0, changedSince := false }))
        lau := { s.lau with line := .seek, quietCount := 0 }
        pub := { s.pub.give .presence with
          presenceTimer := some 2000000, republishTimer := some (sh.header.republish * 250000) } })

/-- O13. A POST at a port that is not BUSY is answered with the first condition of R29's table that applies, nothing
else changing; when none applies it is answered ACCEPTED, the port is BUSY with it, and the Station Port's request at
the STU carries the observation with the point's kind, parcel and meter factor. At a BUSY port the answer is BUSY.
Rules R29. -/
def Obligations.PostIsCheckedInOrder : Prop :=
  ∀ (point epoch : Byte) (quantity water : BitVec 32) (temperature : BitVec 16) (s : State), s.takes →
    let found := s.table.own.find? (fun p => decide (p.number = point.toNat))
    let is := fun (f : OwnPoint → Bool) => found.any f
    let slot := fun (p : OwnPoint) => if epoch = 1 then p.slots.opening else if epoch = 2 then p.slots.interim
      else p.slots.closing
    let table : List (Bool × ResultCode) :=
      [ (s.port.busy.isSome, .busy),
        (decide (s.sheet.node = .final), .finalised),
        (decide (s.sheet.node ≠ .active), .state),
        (found.isNone, .noPoint),
        (is (·.withdrawn), .withdrawn),
        (decide (epoch.toNat < 1 ∨ 3 < epoch.toNat ∨ 4000000000 < quantity.toNat ∨ 4000000000 < water.toNat
            ∨ temperature.toInt < -4000 ∨ 15000 < temperature.toInt)
          || is (fun p => decide (p.kind = .meter ∧ water ≠ 0)), .range),
        (is (fun p => decide (epoch ≠ 1) && p.slots.opening.isNone), .order),
        (is (fun p => decide (epoch = 2) && p.slots.closing.isSome), .closed),
        (is (fun p => decide (p.protection = .throughClosing ∨ (p.protection = .throughOpening ∧ epoch = 1))), .isProtected),
        (is (fun p => decide (epoch ≠ 2) && (slot p).isSome && decide (s.amendMode ≠ .none) && !s.table.permit), .noPermit),
        (is (fun p => (slot p).any (fun o => decide (o.revision = 65535))), .revisionLimit) ]
    (∀ code, firstRefusal table = some code →
      exec (.post point epoch quantity water temperature) s = .next (s.answered code []))
    ∧ (firstRefusal table = none → ∃ p e, found = some p ∧ Epoch.code e = epoch.toNat ∧
      (let item : StuItem := { parcel := p.parcel, kind := p.kind, meterFactor := p.meterFactor, epoch := e, source := none
                               raw := { quantity := quantity.toNat, water := water.toNat
                                        temperature := temperature.toInt } }
       exec (.post point epoch quantity water temperature) s =
         .next { s.accepted (.post point.toNat) with stu := { s.stu with portWaiting := some [item] } }))

/-- O14. With the results of a POST handed back and the hold CLEAR, the epoch's slot takes the raw and computed fields
with revision 1 or the held one plus one; the change count rises by one; under EACH an amendment clears the permit;
POINT k is given, the parcel's recompute requested, LIMIT raised for a qualifier, WATCH for a watched key, a changed-
since mark given for OPENING or CLOSING; the POST's service at the STU ends and the POST completes with DONE. Nothing
else changes. With the hold not CLEAR the store waits. Derived from 02 section 2.3 (R30, R31, R32); 02 section 2.2
(R28); 01 section 1.4 (R13); 01 section 1.6 (R18); 08 section 8.6 (R154). -/
def Obligations.PostStoreIsOneChangeWithItsFanOut : Prop :=
  (∀ (s : State) (k : Nat) (r : StuResult) (p : OwnPoint),
    s.port.busy = some (.post k) → s.table.postResult = some r →
    s.table.own.find? (fun q => decide (q.number = k)) = some p →
    s.table.hold = { holder := none, waiting := false } →
    let e := r.item.epoch
    let held := p.slots.get e
    let o : Observation := { revision := (held.map (·.revision)).getD 0 + 1, raw := r.item.raw, std := r.std }
    let table : FigureTable :=
      { s.table with
        own := s.table.own.map (fun q => if q.number = k then { q with slots := q.slots.set e (some o) } else q)
        changeCount := s.table.changeCount + 1
        permit := s.table.permit && !decide (s.amendMode = .each ∧ e ≠ .interim ∧ held.isSome = true)
        postResult := none }
    let limited := if r.std.quals = {} then s.notices else s.notices.raise .limit p.parcel
    exec .postStore s = .next { s with
      table := table
      stu := { s.stu with inService := s.stu.inService.filter (fun v => decide (v.requester = .intake)) }
      pub := s.pub.give (.point k)
      balance := s.balance.request { own := table.own, entries := s.table.entries, peers := s.peers, node := s.sheet.node }
        p.parcel
      notices := limited.raiseWatch { slot := s.ownSlot, point := k }
      attest := s.attest.map (fun a => if a.parcel = p.parcel ∧ a.epoch = e ∧ e ≠ .interim then
        { a with changedSince := true } else a)
      port := { s.port with busy := none, last := .done } })
  ∧ (∀ (s : State), (s.table.hold.holder ≠ none ∨ s.table.hold.waiting = true) → exec .postStore s = .next s)

/-- O15. PERMIT and REVOKE are refused with STATE in BLANK, LOADING and LOADED; otherwise the permit is set by PERMIT
unless the amend mode is NONE, and clear after REVOKE. NOTICE ENABLE is refused with RANGE for a kind above 10 or a
setting above 1 and otherwise sets that kind's enable alone. EDGE SELECT is refused with RANGE for a parcel outside
1..8 or a setting above 3, with NO_PARCEL for a parcel the sheet does not define in ACTIVE and FINAL, and otherwise
sets that parcel's select alone. Each taken one is answered DONE; nothing else changes. Derived from 02 section 2.3
(R32); 08 section 8.3 (R146); 08 section 8.5 (R151). -/
def Obligations.SettingRequests : Prop :=
  (∀ (s : State), s.portIdle →
      exec .permit s = .next (s.checked [(decide (s.sheet.node ≠ .active ∧ s.sheet.node ≠ .final), .state)]
        { s.answered .done [] with table := { s.table with permit := decide (s.amendMode ≠ .none) } }))
  ∧ (∀ (s : State), s.portIdle →
      exec .revoke s = .next (s.checked [(decide (s.sheet.node ≠ .active ∧ s.sheet.node ≠ .final), .state)]
        { s.answered .done [] with table := { s.table with permit := false } }))
  ∧ (∀ (kind setting : Byte) (s : State), s.portIdle →
    ∃ en : BitVec 11,
      exec (.noticeEnable kind setting) s = .next (s.checked
        [(decide (10 < kind.toNat ∨ 1 < setting.toNat), .range)]
        { s.answered .done [] with notices := { s.notices with enables := en } })
      ∧ ∀ i < 11, en.getLsbD i = if i = kind.toNat then decide (setting = 1) else s.notices.enables.getLsbD i)
  ∧ (∀ (parcel setting : Byte) (s : State), s.portIdle →
      let select := [EdgeSelect.worse, .better, .both, .none].getD setting.toNat .worse
      exec (.edgeSelect parcel setting) s = .next (s.checked
        [ (decide (parcel.toNat < 1 ∨ 8 < parcel.toNat ∨ 3 < setting.toNat), .range),
          (decide ((s.sheet.node = .active ∨ s.sheet.node = .final)
            ∧ ∀ sh ∈ s.sheet.sheet, ∀ d ∈ sh.parcels, d.number ≠ parcel.toNat), .noParcel) ]
        { s.answered .done [] with notices :=
            { s.notices with edges := s.notices.edges.set (parcel.toNat - 1) select } }))

/-- O16. WITHDRAW is answered with the first refusal of R33's table, or accepted. With the hold CLEAR the withdrawal
empties the three slots and sets the mark, raises the change count by one, consumes the permit under EACH, gives POINT
k and the recompute, raises WATCH for a watched key, marks the attested epochs that were held, and completes with
DONE. Nothing else changes. With the hold not CLEAR it waits. Derived from 02 section 2.3 (R33); 02 section 2.2 (R28).
-/
def Obligations.WithdrawIsCheckedAndMadeWhole : Prop :=
  (∀ (point : Byte) (s : State), s.portIdle →
    let found := s.table.own.find? (fun p => decide (p.number = point.toNat))
    exec (.withdraw point) s = .next (s.checked
      [ (decide (s.sheet.node = .final), .finalised), (decide (s.sheet.node ≠ .active), .state),
        (found.isNone, .noPoint), (found.any (·.withdrawn), .withdrawn),
        (found.any (fun p => decide (p.protection ≠ .none)), .isProtected),
        (decide (s.amendMode ≠ .none) && !s.table.permit, .noPermit) ]
      (s.accepted (.withdraw point.toNat))))
  ∧ (∀ (s : State) (k : Nat) (p : OwnPoint), s.port.busy = some (.withdraw k) →
      s.table.own.find? (fun q => decide (q.number = k)) = some p →
      s.table.hold = { holder := none, waiting := false } →
      let table : FigureTable :=
        { s.table with
          own := s.table.own.map (fun q => if q.number = k then
            { q with withdrawn := true, slots := { opening := none, interim := none, closing := none } } else q)
          changeCount := s.table.changeCount + 1
          permit := s.table.permit && !decide (s.amendMode = .each) }
      exec .withdrawalMade s = .next { s with
        table := table
        pub := s.pub.give (.point k)
        balance := s.balance.request { own := table.own, entries := s.table.entries, peers := s.peers, node := s.sheet.node }
          p.parcel
        notices := s.notices.raiseWatch { slot := s.ownSlot, point := k }
        attest := s.attest.map (fun a => if a.parcel = p.parcel
            ∧ (a.epoch = .opening ∧ p.slots.opening.isSome = true ∨ a.epoch = .closing ∧ p.slots.closing.isSome = true)
          then { a with changedSince := true } else a)
        port := { s.port with busy := none, last := .done } })
  ∧ (∀ (s : State), (s.table.hold.holder ≠ none ∨ s.table.hold.waiting = true) → exec .withdrawalMade s = .next s)

/-- O17. FINALISE is refused with FINALISED in FINAL, STATE before START and INCOMPLETE while a non-withdrawn own
point lacks a CLOSING, and is otherwise accepted. With the hold CLEAR every own point is THROUGH_CLOSING (one change
if any level rose), the node is FINAL, PRESENCE is given, every parcel's recompute is requested in record order, and
the request completes with DONE. The permit and everything else are unchanged. With the hold not CLEAR it waits.
Derived from 02 section 2.3 (R34, R36); 02 section 2.2 (R28). -/
def Obligations.FinaliseProtectsAndEndsTheTransfer : Prop :=
  (∀ (s : State), s.portIdle →
    exec .finalise s = .next (s.checked
      [ (decide (s.sheet.node = .final), .finalised), (decide (s.sheet.node ≠ .active), .state),
        (decide (∃ p ∈ s.table.own, p.withdrawn = false ∧ p.slots.closing = none), .incomplete) ]
      (s.accepted .finalise)))
  ∧ (∀ (s : State), s.port.busy = some .finalise → s.table.hold = { holder := none, waiting := false } →
      let table : FigureTable :=
        { s.table with
          own := s.table.own.map (fun p => { p with protection := .throughClosing })
          changeCount := if ∃ p ∈ s.table.own, p.protection ≠ .throughClosing then s.table.changeCount + 1
            else s.table.changeCount }
      exec .finaliseMade s = .next { s with
        table := table
        sheet := { s.sheet with node := .final }
        pub := s.pub.give .presence
        balance := (s.balance.records.map (·.parcel)).foldl
          (BalanceEngine.request { own := table.own, entries := s.table.entries, peers := s.peers, node := .final }) s.balance
        port := { s.port with busy := none, last := .done } })
  ∧ (∀ (s : State), (s.table.hold.holder ≠ none ∨ s.table.hold.waiting = true) → exec .finaliseMade s = .next s)

/-- O18. RESTART is refused with STATE before START and otherwise accepted. With the hold CLEAR one step moves the
node to ACTIVE, clears every own point's slots, mark and protection and the permit, raises the change count by one,
resets every parcel record and queues every parcel, empties every attest record, leaves one PRESENCE job, raises the
generation by one, puts the rotation before the first subject, empties the pending set and completes with DONE. Peers,
entries, intake, LAU, STU, timers, sequence and settings stay. With the hold not CLEAR it waits. Derived from 07
section 7.4 (R141); 02 section 2.6 (R46); 03 section 3.7 (R73); 04 section 4.6 (R87, R88); 06 section 6.4 (R130); 08
section 8.7 (R155). -/
def Obligations.RestartIsOneChangeOfManyBlocks : Prop :=
  (∀ (s : State), s.portIdle →
    exec .restart s = .next (s.checked [(decide (s.sheet.node ≠ .active ∧ s.sheet.node ≠ .final), .state)]
      (s.accepted .restart)))
  ∧ (∀ (s : State), s.port.busy = some .restart → s.table.hold = { holder := none, waiting := false } →
      exec .restartChange s = .next { s with
        sheet := { s.sheet with node := .active }
        table := { s.table with
          own := s.table.own.map (fun p => { p with
            slots := { opening := none, interim := none, closing := none }, withdrawn := false, protection := .none })
          permit := false, changeCount := s.table.changeCount + 1 }
        balance :=
          { records := s.balance.records.map (fun r =>
              { parcel := r.parcel, settled := false, status := .queued, count := 0, lastNotified := .noBasis
                result :=
                  { shipTotal := 0, custodyTotal := 0, checkTotal := 0, shipMass := 0, custodyMass := 0, checkMass := 0
                    shipCount := 0, custodyCount := 0, checkCount := 0, lackingCount := 0, shipAdjusted := 0
                    difference := 0, ratio := none, verdict := .noBasis, quals := {} } })
            queue := s.balance.records.map (·.parcel), computing := none, seen := [] }
        attest := s.attest.map (fun r => { r with
          summary := none, matching := 0, diverging := 0, changedSince := false })
        pub := { s.pub with
          queue := [{ subject := .presence, inFlight := false, resend := false }]
          generation := s.pub.generation + 1, rotation := none }
        notices := { s.notices with pending := [] }
        port := { s.port with busy := none, last := .done } })
  ∧ (∀ (s : State), (s.table.hold.holder ≠ none ∨ s.table.hold.waiting = true) → exec .restartChange s = .next s)

/-- O19. While the STU serves, or nothing waits, STU_GRANT changes nothing; else the one waiting request, or on a tie
the requester the last-served mark does not name, is served and takes the mark. The next observation in service gets
the VCF, GSV, mass and qualifiers of the five stages with this node's constants, and a mismatch exactly when it has a
source GSV that differs. While more remain the results are kept; after the last all results go together to the POST or
to the frame being merged, and the STU grants nothing until they are stored. Nothing else changes. Derived from 01
section 1.6 (R18, R19); 01 sections 1.2, 1.3, 1.4, 1.5 (R3, R12, R15). -/
def Obligations.StuGrantsAndServes : Prop :=
  (∀ (s : State) (mine theirs : List StuItem),
    let served := fun (r : Requester) (items : List StuItem) =>
      some { requester := r, todo := items, results := ([] : List StuResult) }
    (s.stu.inService.isSome = true → exec .stuGrant s = .next s)
    ∧ (s.stu.portWaiting = none → s.stu.intakeWaiting = none → exec .stuGrant s = .next s)
    ∧ (s.stu.inService = none → s.stu.portWaiting = some mine →
        (s.stu.intakeWaiting = none ∨ s.stu.lastServed = .intake) →
        exec .stuGrant s = .next { s with stu :=
          { s.stu with inService := served .port mine, portWaiting := none, lastServed := .port } })
    ∧ (s.stu.inService = none → s.stu.intakeWaiting = some theirs →
        (s.stu.portWaiting = none ∨ s.stu.lastServed = .port) →
        exec .stuGrant s = .next { s with stu :=
          { s.stu with inService := served .intake theirs, intakeWaiting := none, lastServed := .intake } }))
  ∧ (∀ (s : State) (r : Requester) (item : StuItem) (rest : List StuItem) (results : List StuResult) (sh : Sheet)
    (d : ParcelDef),
    s.stu.inService = some { requester := r, todo := item :: rest, results := results } →
    s.sheet.sheet = some sh → sh.parcels.find? (fun q => decide (q.number = item.parcel)) = some d →
    let gov := stageGov item.kind item.meterFactor item.raw
    let dt := stageDelta d.tRef item.raw.temperature
    let vcf := stageVcf (stageN d.a d.b dt.1)
    let gsv := stageGsv gov.1 vcf.1
    let mass := stageMass gsv.1 d.d
    ∃ result : StuResult, result.item = item
      ∧ result.std.vcf = vcf.1 ∧ result.std.gsv = gsv.1 ∧ result.std.mass = mass.1
      ∧ result.std.quals.waterClamp = gov.2 ∧ result.std.quals.dtClamp = dt.2 ∧ result.std.quals.vcfClamp = vcf.2
      ∧ result.std.quals.gsvSat = gsv.2 ∧ result.std.quals.massSat = mass.2
      ∧ (result.mismatch = true ↔ ∃ src ∈ item.source, src.2.gsv ≠ gsv.1)
      ∧ (rest ≠ [] → exec .stuObservationComputed s = .next { s with stu := { s.stu with
          inService := some { requester := r, todo := rest, results := results ++ [result] } } })
      ∧ (rest = [] → r = .port → exec .stuObservationComputed s = .next { s with
          stu := { s.stu with inService := some { requester := r, todo := [], results := results ++ [result] } }
          table := { s.table with postResult := (results ++ [result]).head? } })
      ∧ (rest = [] → r = .intake → ∀ slot point kind parcel factor old,
          s.intake.merging = some (.figure slot point kind parcel factor old) →
          exec .stuObservationComputed s = .next { s with
            stu := { s.stu with inService := some { requester := r, todo := [], results := results ++ [result] } }
            intake := { s.intake with merging := some (.figure slot point kind parcel factor (some (results ++ [result]))) } }))
  ∧ (∀ (s : State) (v : StuService), s.stu.inService = some v → v.todo = [] →
      exec .stuObservationComputed s = .next s ∧ exec .stuGrant s = .next s)

/-- O20. For a tank point the GOV is the quantity less the water, 0 with WATER_CLAMP when the water exceeds the
quantity and 0 without it when they are equal, and lies in 0..4,000,000,000. For a meter point it is the quantity
times the factor, 50,000 added, divided by 100,000 and the fraction discarded, without a qualifier; it lies in
0..4,400,000,000, ignores the water, and equals the quantity at a factor of 100,000. Rules R4, R5. -/
def Obligations.GrossObservedVolume : Prop :=
  ∀ (kind : PointKind) (factor water : Nat) (r : RawFigures), r.inRangeFor kind = true →
    (kind ≠ .meter →
      (r.quantity < r.water → stageGov kind factor r = (0, true))
      ∧ (r.quantity = r.water → stageGov kind factor r = (0, false))
      ∧ (r.water < r.quantity → (stageGov kind factor r).1 + r.water = r.quantity ∧ (stageGov kind factor r).2 = false)
      ∧ (stageGov kind factor r).1 ≤ 4000000000)
    ∧ (kind = .meter → 90000 ≤ factor → factor ≤ 110000 →
      100000 * (stageGov kind factor r).1 ≤ r.quantity * factor + 50000
      ∧ r.quantity * factor + 50000 < 100000 * ((stageGov kind factor r).1 + 1)
      ∧ (stageGov kind factor r).2 = false
      ∧ (stageGov kind factor r).1 ≤ 4400000000
      ∧ stageGov kind factor { r with water := water } = stageGov kind factor r
      ∧ (factor = 100000 → (stageGov kind factor r).1 = r.quantity))

/-- O21. The temperature difference is the observed less the reference temperature, replaced by the nearer end outside
−10,000..+10,000 with DT_CLAMP. N is 10¹³ less A·ΔT·10⁵ plus B·ΔT², with L, Q and N in the stated ranges for constants
and temperatures in range. The VCF is N plus 50,000,000 divided by 10⁸, the fraction discarded, in 70,000..125,280
before and 80,000..120,000 after the clamp, VCF_CLAMP exactly when clamped. Rules R6, R7, R8. -/
def Obligations.TemperatureDifferenceAndVcf : Prop :=
  (∀ (tRef temperature : Int),
    let dt := temperature - tRef
    (-10000 ≤ dt ∧ dt ≤ 10000 → stageDelta tRef temperature = (dt, false))
    ∧ (dt < -10000 → stageDelta tRef temperature = (-10000, true))
    ∧ (10000 < dt → stageDelta tRef temperature = (10000, true))
    ∧ (-1000 ≤ tRef ∧ tRef ≤ 4000 ∧ -4000 ≤ temperature ∧ temperature ≤ 15000 → -8000 ≤ dt ∧ dt ≤ 16000))
  ∧ (∀ (a b : Nat) (tRef temperature : Int), a ≤ 3000 → b ≤ 2000 → -1000 ≤ tRef → tRef ≤ 4000 → -4000 ≤ temperature →
      temperature ≤ 15000 →
      let dt := (stageDelta tRef temperature).1
      let l : Int := a * dt
      let q : Int := b * dt * dt
      let n := stageN a b dt
      n = 10000000000000 - l * 100000 + q
      ∧ -30000000 ≤ l ∧ l ≤ 30000000 ∧ 0 ≤ q ∧ q ≤ 200000000000
      ∧ 7000000000000 ≤ n ∧ n ≤ 12528000000000
      ∧ ∃ v : Nat, 100000000 * (v : Int) ≤ n + 50000000 ∧ n + 50000000 < 100000000 * ((v : Int) + 1)
        ∧ 70000 ≤ v ∧ v ≤ 125280
        ∧ (v < 80000 → stageVcf n = (80000, true)) ∧ (120000 < v → stageVcf n = (120000, true))
        ∧ (80000 ≤ v ∧ v ≤ 120000 → stageVcf n = (v, false)))

/-- O22. The GSV is the GOV times the VCF divided by 100,000 rounded half up, the mass the stored GSV times D divided
by 10,000 rounded half up; each saturates at 4,294,967,295 with its qualifier exactly when the rounded result exceeds
it. The product is at most 528,000,000,000,000; a saturated GSV with D above 10,000 saturates the mass too. Rules R9,
R10. -/
def Obligations.GrossStandardVolumeAndMass : Prop :=
  ∀ (gov vcf d : Nat), gov ≤ 4400000000 → vcf ≤ 120000 → 5000 ≤ d → d ≤ 11000 →
    let gsv := stageGsv gov vcf
    let mass := stageMass gsv.1 d
    gov * vcf ≤ 528000000000000
    ∧ (∃ v : Nat, 100000 * v ≤ gov * vcf + 50000 ∧ gov * vcf + 50000 < 100000 * (v + 1)
        ∧ (v ≤ 4294967295 → gsv = (v, false)) ∧ (4294967295 < v → gsv = (4294967295, true)))
    ∧ gsv.1 ≤ 4294967295
    ∧ (∃ v : Nat, 10000 * v ≤ gsv.1 * d + 5000 ∧ gsv.1 * d + 5000 < 10000 * (v + 1)
        ∧ (v ≤ 4294967295 → mass = (v, false)) ∧ (4294967295 < v → mass = (4294967295, true)))
    ∧ mass.1 ≤ 4294967295
    ∧ (gsv.2 = true → 10000 < d → mass = (4294967295, true))

/-- O23. ATTEST is answered with the first refusal of R76's table, or accepted with the hold SET for the Attestation
Unit when no frame is being merged and WAITING otherwise. A waiting request gets the hold when nobody holds it and no
frame is being merged. Nothing else changes. Derived from 04 section 4.2 (R76, R78 step 1); 02 section 2.2 (R27). -/
def Obligations.AttestIsCheckedAndTakesTheHold : Prop :=
  (∀ (parcel epoch : Byte) (s : State), s.portIdle →
    let e : Epoch := if epoch = 1 then .opening else .closing
    exec (.attest parcel epoch) s = .next (s.checked
      [ (decide (s.sheet.node ≠ .active ∧ s.sheet.node ≠ .final), .state),
        (decide ((epoch ≠ 1 ∧ epoch ≠ 3) ∨ parcel.toNat < 1 ∨ 8 < parcel.toNat), .range),
        (decide (∀ sh ∈ s.sheet.sheet, ∀ d ∈ sh.parcels, d.number ≠ parcel.toNat), .noParcel),
        (decide (∃ p ∈ s.table.own, p.parcel = parcel.toNat ∧ p.withdrawn = false ∧ p.slots.get e = none), .incomplete) ]
      { s.accepted (.attest parcel.toNat e) with table := { s.table with hold :=
          if s.intake.merging = none then { holder := some .attestation, waiting := false }
          else { s.table.hold with waiting := true } } }))
  ∧ (∀ (s : State), s.table.hold = { holder := none, waiting := true } → s.intake.merging = none →
      exec .intakeHoldSet s =
        .next { s with table := { s.table with hold := { holder := some .attestation, waiting := false } } })
  ∧ (∀ (s : State), (s.table.hold.waiting = false ∨ s.table.hold.holder ≠ none ∨ s.intake.merging ≠ none) →
      exec .intakeHoldSet s = .next s)

/-- O24. The scan for (p, e) counts the own points of p not withdrawn and the entries of p whose station is not
FOREIGN that hold the epoch, and sums this node's own GSVs of that epoch over them; source values, conflict and
mismatch fields, qualifiers, revisions and the other epochs take no part. Rules R77. -/
def Obligations.ViewScanCountsAndSums : Prop :=
  ∀ (s : State) (p : Nat) (e : Epoch),
    let own := s.table.own.filter (fun o =>
      decide (o.parcel = p ∧ o.withdrawn = false ∧ (o.slots.get e).isSome = true))
    let entries := s.table.entries.filter (fun x =>
      decide (x.parcel = p ∧ (s.peer x.slot).state ≠ .foreign ∧ (x.slots.get e).isSome = true))
    (s.scan p e).count = own.length + entries.length
    ∧ (s.scan p e).sum = (own.map (fun o => ((o.slots.get e).map (·.std.gsv)).getD 0)).sum
        + (entries.map (fun x => ((x.slots.get e).map (·.obs.std.gsv)).getD 0)).sum

/-- O25. With an ATTEST in flight and the hold SET for it, the record's summary becomes the scan's count and sum with
changed-since clear and its sets as they were; the parcel's own points not withdrawn rise to THROUGH_OPENING from NONE
(OPENING) or to THROUGH_CLOSING (CLOSING), one change if any rose; ATTEST (p, e) is given, the hold released, the
request completed with DONE. Nothing else changes. Without the hold nothing happens. Derived from 04 section 4.2 (R78,
R79); 02 section 2.3 (R34); 02 section 2.2 (R27). -/
def Obligations.AttestScanStoresAndProtects : Prop :=
  (∀ (s : State) (p : Nat) (e : Epoch), s.port.busy = some (.attest p e) → s.table.hold.holder = some .attestation →
    let rises := fun (o : OwnPoint) => decide (o.parcel = p ∧ o.withdrawn = false)
    let level := fun (o : OwnPoint) => if e = .closing then Protection.throughClosing
      else if o.protection = .none then .throughOpening else o.protection
    exec .attestScanComplete s = .next { s with
      table := { s.table with
        own := s.table.own.map (fun o => if rises o then { o with protection := level o } else o)
        changeCount := if ∃ o ∈ s.table.own, rises o = true ∧ o.protection ≠ level o then s.table.changeCount + 1
          else s.table.changeCount
        hold := if s.table.hold.waiting then { holder := some .attestation, waiting := false }
          else { holder := none, waiting := false } }
      attest := s.attest.map (fun r => if r.parcel = p ∧ r.epoch = e then
        { r with summary := some (s.scan p e), changedSince := false } else r)
      pub := s.pub.give (.attest p e)
      port := { s.port with busy := none, last := .done } })
  ∧ (∀ (s : State), s.table.hold.holder ≠ some .attestation → exec .attestScanComplete s = .next s)

/-- O26. With the scan's count and sum equal to the frame's, the station joins the record's matching set and leaves
its diverging set; otherwise the other way round with VIEW_DIVERGE(p) raised. In both outcomes changed-since is
cleared; other members, other records and the own summary stay. The hold is released, at once to a waiting ATTEST
where one waits (log 10), and the frame is finished. Nothing else changes. Derived from 04 section 4.4 (R82, R83); 02
section 2.2 (R27). -/
def Obligations.ComparisonPlacesTheStation : Prop :=
  ∀ (s : State) (slot p : Nat) (e : Epoch) (theirs : Summary),
    s.intake.merging = some (.comparison slot p e theirs) → s.table.hold.holder = some .intake → slot < 16 →
    let equal := decide (s.scan p e = theirs)
    ∃ updated : AttestRecord → AttestRecord,
      exec .comparisonComplete s = .next { s with
        attest := s.attest.map (fun r => if r.parcel = p ∧ r.epoch = e then updated r else r)
        notices := if equal then s.notices else s.notices.raise .viewDiverge p
        intake := { s.intake with merging := none }
        table := { s.table with hold :=
          if s.table.hold.waiting then { holder := some .attestation, waiting := false }
          else { holder := none, waiting := false } } }
      ∧ ∀ r : AttestRecord, (updated r).parcel = r.parcel ∧ (updated r).epoch = r.epoch
        ∧ (updated r).summary = r.summary ∧ (updated r).changedSince = false
        ∧ ∀ i : Nat, (updated r).matching.getLsbD i = (if i = slot then equal else r.matching.getLsbD i)
          ∧ (updated r).diverging.getLsbD i = (if i = slot then !equal else r.diverging.getLsbD i)

/-- O27. In a pending set without duplicates, a raise of a kind and subject makes one entry with count 0 where there
was none, and otherwise raises that entry's count by one, saturating at 255; every other pair keeps its entry and
count, the set keeps its form, and the enables take no part. Rules R144. -/
def Obligations.RaiseAddsOrCounts : Prop :=
  ∀ (k : NoticeKind) (j : Nat) (n : NoticeUnit), PendingOk n.pending →
    let count := fun (ns : List Notice) (k' : NoticeKind) (j' : Nat) =>
      (ns.find? (fun m => decide (m.kind = k' ∧ m.subject = j'))).map (·.count)
    PendingOk (n.raise k j).pending
    ∧ (count n.pending k j = none → count (n.raise k j).pending k j = some 0)
    ∧ (∀ c, count n.pending k j = some c → count (n.raise k j).pending k j = some (if c < 255 then c + 1 else 255))
    ∧ (∀ k' j', (k', j') ≠ (k, j) → count (n.raise k j).pending k' j' = count n.pending k' j')
    ∧ (n.raise k j).enables = n.enables ∧ (n.raise k j).edges = n.edges ∧ (n.raise k j).watch = n.watch
    ∧ ∀ en : BitVec 11, ({ n with enables := en }.raise k j).pending = (n.raise k j).pending

/-- O28. In a pending set in its form, SERVICE QUERY returns the kind number, subject and count of the enabled entry
that no other enabled entry precedes in R145's priority and then subject, or 0xFF, 0, 0 where no enabled entry is
pending. READ NOTICES returns the number of entries, the enables and every entry in that order, and its first enabled
entry is the one SERVICE QUERY returns. Kind numbers and priorities are those of R145's table, written out. Neither
changes anything but the reply. Derived from 08 section 8.4 (R148, R150); 08 section 8.2 (R145); 10 section 10.3
(R171). -/
def Obligations.ServiceQueryAndReadNotices : Prop :=
  let priority : NoticeKind → Nat := fun k => match k with
    | .linkFault => 1 | .sheetMismatch => 2 | .viewDiverge => 3 | .verdictWorse => 4 | .computeMismatch => 5
    | .peerAbsent => 6 | .tableFull => 7 | .limit => 8 | .watch => 9 | .verdictBetter => 10 | .peerReturn => 11
  let number : NoticeKind → Nat := fun k => match k with
    | .verdictWorse => 0 | .verdictBetter => 1 | .viewDiverge => 2 | .peerAbsent => 3 | .peerReturn => 4
    | .sheetMismatch => 5 | .computeMismatch => 6 | .tableFull => 7 | .limit => 8 | .watch => 9 | .linkFault => 10
  (∀ (s : State) (n : Notice), s.takes → PendingOk s.notices.pending → n ∈ s.notices.pending →
    s.notices.enables.getLsbD (number n.kind) = true →
    (∀ m ∈ s.notices.pending, s.notices.enables.getLsbD (number m.kind) = true → m ≠ n →
      priority n.kind < priority m.kind ∨ (n.kind = m.kind ∧ n.subject < m.subject)) →
    exec .serviceQuery s = .next (s.answered .done
      [BitVec.ofNat 8 (number n.kind), BitVec.ofNat 8 n.subject, BitVec.ofNat 8 n.count]))
  ∧ (∀ (s : State), s.takes → (∀ m ∈ s.notices.pending, s.notices.enables.getLsbD (number m.kind) = false) →
      exec .serviceQuery s = .next (s.answered .done [0xFF, 0, 0]))
  ∧ (∀ (s : State), PendingOk s.notices.pending →
      (∃ n ∈ s.notices.pending, s.notices.enables.getLsbD (number n.kind) = true) →
      ∃ n ∈ s.notices.pending, s.notices.enables.getLsbD (number n.kind) = true
        ∧ s.notices.pending.find? (fun m => s.notices.enables.getLsbD (number m.kind)) = some n
        ∧ ∀ m ∈ s.notices.pending, s.notices.enables.getLsbD (number m.kind) = true → m ≠ n →
          priority n.kind < priority m.kind ∨ (n.kind = m.kind ∧ n.subject < m.subject))
  ∧ (∀ (s : State), s.takes →
      exec .readNotices s = .next (s.answered .done
        ([BitVec.ofNat 8 s.notices.pending.length] ++ bytes16 (s.notices.enables.setWidth 16)
          ++ s.notices.pending.flatMap (fun n =>
            [BitVec.ofNat 8 (number n.kind), BitVec.ofNat 8 n.subject, BitVec.ofNat 8 n.count]))))
  ∧ (∀ (s : State), PendingOk s.notices.pending → s.notices.pending.Pairwise (fun m n =>
      priority m.kind < priority n.kind ∨ (m.kind = n.kind ∧ m.subject < n.subject)))
  ∧ (∀ k : NoticeKind, k.number = number k)

/-- O29. ACKNOWLEDGE is refused with RANGE for a kind number above 10 or a subject outside R145's range for the kind,
with NOT_FOUND where no entry of the pair is pending, and with BUSY while a long operation is in flight, nothing
changing. Otherwise it is answered DONE and the entry of that pair leaves the set, whatever its count and its kind's
enable; nothing else changes. Rules R149. -/
def Obligations.AcknowledgeRemovesOneEntry : Prop :=
  ∀ (kind subject : Byte) (s : State), s.takes →
    let k := kind.toNat
    let j := subject.toNat
    let this := fun (n : Notice) => decide (n.kind.number = k ∧ n.subject = j)
    exec (.acknowledge kind subject) s = .next (s.checked
      [ (s.port.busy.isSome, .busy),
        (decide (10 < k ∨ (k = 10 ∧ 2 < j) ∨ (k = 7 ∧ 0 < j) ∨ ((3 ≤ k ∧ k ≤ 6 ∨ k = 9) ∧ 15 < j)
          ∨ ((k ≤ 2 ∨ k = 8) ∧ (j < 1 ∨ 8 < j))), .range),
        (!s.notices.pending.any this, .notFound) ]
      { s.answered .done [] with notices :=
          { s.notices with pending := s.notices.pending.filter (fun n => !this n) } })

/-- O30. WATCH ADD is refused with RANGE, DUPLICATE or FULL in that order, and otherwise puts the key at the lowest
index no key holds and answers DONE with that index. WATCH REMOVE is refused with RANGE or NOT_FOUND, and otherwise
frees the index of the key. No notice and nothing else changes. A raise for a changed key is WATCH at the lowest index
that holds it, and none where no index does. Derived from 08 section 8.6 (R152, R153, R154). -/
def Obligations.WatchAddAndWatchRemove : Prop :=
  (∀ (slot point : Byte) (s : State), s.portIdle →
    let key : WatchKey := { slot := slot.toNat, point := point.toNat }
    let refusals : List (Bool × ResultCode) :=
      [ (decide (15 < slot.toNat ∨ 23 < point.toNat), .range), (decide (some key ∈ s.notices.watch), .duplicate),
        (decide (none ∉ s.notices.watch), .full) ]
    (∀ code, firstRefusal refusals = some code → exec (.watchAdd slot point) s = .next (s.answered code []))
    ∧ (∀ i : Nat, firstRefusal refusals = none → s.notices.watch[i]? = some none →
        (∀ j < i, s.notices.watch[j]? ≠ some none) →
        exec (.watchAdd slot point) s = .next
          { s.answered .done [BitVec.ofNat 8 i] with
            notices := { s.notices with watch := s.notices.watch.set i (some key) } }))
  ∧ (∀ (slot point : Byte) (s : State), s.portIdle →
      let key : WatchKey := { slot := slot.toNat, point := point.toNat }
      let refusals : List (Bool × ResultCode) :=
        [ (decide (15 < slot.toNat ∨ 23 < point.toNat), .range), (decide (some key ∉ s.notices.watch), .notFound) ]
      (∀ code, firstRefusal refusals = some code → exec (.watchRemove slot point) s = .next (s.answered code []))
      ∧ (∀ i : Nat, firstRefusal refusals = none → s.notices.watch[i]? = some (some key) →
          (∀ j < i, s.notices.watch[j]? ≠ some (some key)) →
          exec (.watchRemove slot point) s = .next
            { s.answered .done [] with notices := { s.notices with watch := s.notices.watch.set i none } }))
  ∧ (∀ (n : NoticeUnit) (key : WatchKey) (i : Nat), n.watch[i]? = some (some key) →
      (∀ j < i, n.watch[j]? ≠ some (some key)) → n.raiseWatch key = n.raise .watch i)
  ∧ (∀ (n : NoticeUnit) (key : WatchKey), some key ∉ n.watch → n.raiseWatch key = n)

/-- O31. A request for an IDLE parcel makes it QUEUED at the tail; for a QUEUED or COMPUTING_REDO one it changes
nothing; for a COMPUTING one the status becomes COMPUTING_REDO. A parcel stands in the queue at most once and exactly
when it is QUEUED, before and after; with parcels 1..8 the queue holds at most eight. (The readings kept for a
computation in progress are the model's own, log 11.) Derived from 03 section 3.5 (R65). -/
def Obligations.RecomputeRequestActsOnTheStatus : Prop :=
  ∀ (now : Reading) (b : BalanceEngine) (r : ParcelRecord), QueueInv b → r ∈ b.records →
    let after := b.request now r.parcel
    let withStatus := fun (st : ComputeStatus) =>
      b.records.map (fun q => if q.parcel = r.parcel then { q with status := st } else q)
    let kept := if b.computing.isSome ∧ b.seen.getLast? ≠ some now then b.seen ++ [now] else b.seen
    QueueInv after
    ∧ (r.status = .idle → after = { b with
        records := withStatus .queued, queue := b.queue ++ [r.parcel], seen := kept })
    ∧ (r.status = .queued → after = { b with seen := kept })
    ∧ (r.status = .computing → after = { b with records := withStatus .computingRedo, seen := kept })
    ∧ (r.status = .computingRedo → after = { b with seen := kept })
    ∧ ((∀ q ∈ b.records, 1 ≤ q.parcel ∧ q.parcel ≤ 8) → after.queue.length ≤ 8)

/-- O32. Idle with a queue, the engine takes the head parcel, which is COMPUTING. Completed so, it stores the
computation of the state as it stands (log 30), sets settled, goes IDLE and counts one; NO_BASIS notifies nothing,
else a rise above the last notified verdict (NO_BASIS as WITHIN) raises VERDICT_WORSE under WORSE or BOTH, a fall
VERDICT_BETTER under BETTER or BOTH, and the last notified verdict follows. Completed in COMPUTING_REDO it stores a
computation of some reading of the versions met (log 11): of each own point, entry and peer record what one version
has, the record or its absence, and no more entries than a table holds, clears settled, counts one and is queued
again; no notice. Nothing else changes. Derived from 03 section 3.5 (R66, R67); 03 section 3.6 (R70, R71). -/
def Obligations.ComputationsAreTakenAndCompleted : Prop :=
  (∀ (s : State) (p : Nat) (rest : List Nat), s.balance.computing = none → s.balance.queue = p :: rest →
    exec .balanceTake s = .next { s with balance := { s.balance with
      records := s.balance.records.map (fun r => if r.parcel = p then { r with status := .computing } else r)
      queue := rest, computing := some p
      seen := [{ own := s.table.own, entries := s.table.entries, peers := s.peers, node := s.sheet.node }] } })
  ∧ (∀ (s : State) (p : Nat) (sh : Sheet) (d : ParcelDef) (r : ParcelRecord), s.balance.computing = some p →
      s.sheet.sheet = some sh → sh.parcels.find? (fun q => decide (q.number = p)) = some d →
      s.balance.records.find? (fun q => decide (q.parcel = p)) = some r → r.status = .computing →
      let result := compute sh d { own := s.table.own, entries := s.table.entries, peers := s.peers, node := s.sheet.node }
      let rank := fun (v : Verdict) => if v = .outside then 2 else if v = .marginal then 1 else 0
      let edge := s.notices.edges.getD (p - 1) .worse
      let old := r.lastNotified
      let new := result.verdict
      exec .balanceComplete s = .next { s with
        balance := { s.balance with
          records := s.balance.records.map (fun q => if q.parcel = p then
            { q with result := result, settled := true, status := .idle, count := q.count + 1,
                     lastNotified := if new = .noBasis then q.lastNotified else new } else q)
          computing := none, seen := [] }
        notices :=
          if new = .noBasis then s.notices
          else if rank old < rank new ∧ (edge = .worse ∨ edge = .both) then s.notices.raise .verdictWorse p
          else if rank new < rank old ∧ (edge = .better ∨ edge = .both) then s.notices.raise .verdictBetter p
          else s.notices })
  ∧ (∀ (s : State) (p : Nat) (sh : Sheet) (d : ParcelDef) (r : ParcelRecord), s.balance.computing = some p →
    s.sheet.sheet = some sh → sh.parcels.find? (fun q => decide (q.number = p)) = some d →
    s.balance.records.find? (fun q => decide (q.parcel = p)) = some r → r.status = .computingRedo →
    let last : Reading := { own := s.table.own, entries := s.table.entries, peers := s.peers, node := s.sheet.node }
    let versions := s.balance.seen ++ [last]
    ∃ reading : Reading,
      (∀ o ∈ reading.own, ∃ v ∈ versions, o ∈ v.own)
      ∧ (∀ e ∈ reading.entries, ∃ v ∈ versions, e ∈ v.entries)
      ∧ (∀ i : Fin 16, ∃ v ∈ versions, reading.peers.getD i.val PeerRecord.reset = v.peers.getD i.val PeerRecord.reset)
      ∧ (∃ v ∈ versions, reading.node = v.node)
      ∧ (∀ k : Nat, ∃ v ∈ versions, reading.own.find? (fun o => decide (o.number = k))
          = v.own.find? (fun o => decide (o.number = k)))
      ∧ (∀ slot point : Nat, ∃ v ∈ versions,
          reading.entries.find? (fun e => decide (e.slot = slot ∧ e.point = point))
            = v.entries.find? (fun e => decide (e.slot = slot ∧ e.point = point)))
      ∧ ((s.table.own.map (·.number)).Nodup → (reading.own.map (·.number)).Nodup)
      ∧ (reading.entries.map (fun e => (e.slot, e.point))).Nodup
      ∧ (reading.own.length ≤ s.table.own.length)
      ∧ ((∀ v ∈ versions, v.entries.length ≤ 160) → reading.entries.length ≤ 160)
      ∧ exec .balanceComplete s = .next { s with
        freeIx := s.freeIx + 1
        balance := { s.balance with
          records := s.balance.records.map (fun q => if q.parcel = p then
            { q with result := compute sh d reading, settled := false, status := .queued, count := q.count + 1 } else q)
          queue := s.balance.queue ++ [p], computing := none, seen := [] } })

/-- O33. A computation's ship, custody and check totals and masses are the sums of R52's moves of GSV and mass over
the view's points of that side's kind; the ship, custody and check counts are the points of that kind with an OPENING;
with the lacking-opening count they make the number of points in the view: own points of the parcel not withdrawn and
its entries of stations not FOREIGN. Derived from 03 section 3.2 (R51, R52, R53); 03 section 3.3 (R54). -/
def Obligations.SideTotalsAreSumsOfMoves : Prop :=
  ∀ (sh : Sheet) (d : ParcelDef) (r : Reading),
    let c := compute sh d r
    let own := r.own.filter (fun o => decide (o.parcel = d.number ∧ o.withdrawn = false))
    let entries := r.entries.filter (fun e =>
      decide (e.parcel = d.number ∧ (r.peers.getD e.slot PeerRecord.reset).state ≠ .foreign))
    let view := own.map OwnPoint.view ++ entries.map PeerEntry.view
    let custody : PointKind := if d.custody = .tanks then .shoreTank else .meter
    let check : PointKind := if d.custody = .tanks then .meter else .shoreTank
    let total := fun (k : PointKind) (value : Standard → Nat) =>
      ((view.filter (fun v => decide (v.kind = k))).map (ViewPoint.moved sh.header.direction value)).sum
    let count := fun (k : PointKind) => (view.filter (fun v => decide (v.kind = k) && v.slots.opening.isSome)).length
    c.shipTotal = total .shipTank (·.gsv) ∧ c.custodyTotal = total custody (·.gsv) ∧ c.checkTotal = total check (·.gsv)
    ∧ c.shipMass = total .shipTank (·.mass) ∧ c.custodyMass = total custody (·.mass) ∧ c.checkMass = total check (·.mass)
    ∧ c.shipCount = count .shipTank ∧ c.custodyCount = count custody ∧ c.checkCount = count check
    ∧ c.lackingCount = (view.filter (fun v => v.slots.opening.isNone)).length
    ∧ c.shipCount + c.custodyCount + c.checkCount + c.lackingCount = view.length

/-- O34. Ship adjusted is the ship total times 100,000 over the VEF rounded half away from zero, of the total's sign
and 0 exactly when it is 0. The difference is the custody total less it. Without a basis the verdict is NO_BASIS and
the ratio absent; with one the ratio is the difference times 100,000 over ship adjusted, rounded half away from zero
and clamped to ±99,999, and its magnitude against the two bands gives WITHIN, MARGINAL or OUTSIDE. Rules R55, R56,
R57, R58. -/
def Obligations.AdjustedDifferenceRatioAndVerdict : Prop :=
  ∀ (sh : Sheet) (d : ParcelDef) (r : Reading), 95000 ≤ d.vef → d.vef ≤ 105000 → d.inner ≤ d.outer → d.outer ≤ 5000 →
    let c := compute sh d r
    let total := c.shipTotal
    let adjusted := c.shipAdjusted
    let basis : Prop := c.shipCount ≠ 0 ∧ c.custodyCount ≠ 0 ∧ adjusted ≠ 0
    2 * d.vef * adjusted.natAbs ≤ 2 * (100000 * total.natAbs) + d.vef
    ∧ 2 * (100000 * total.natAbs) + d.vef < 2 * d.vef * (adjusted.natAbs + 1)
    ∧ (0 < total ↔ 0 < adjusted) ∧ (total < 0 ↔ adjusted < 0) ∧ (total = 0 ↔ adjusted = 0)
    ∧ c.difference = c.custodyTotal - adjusted
    ∧ (¬ basis → c.verdict = .noBasis ∧ c.ratio = none)
    ∧ (basis → ∃ raw : Int,
        2 * adjusted.natAbs * raw.natAbs ≤ 2 * (100000 * c.difference.natAbs) + adjusted.natAbs
        ∧ 2 * (100000 * c.difference.natAbs) + adjusted.natAbs < 2 * adjusted.natAbs * (raw.natAbs + 1)
        ∧ (0 < c.difference * adjusted → 0 ≤ raw) ∧ (c.difference * adjusted < 0 → raw ≤ 0)
        ∧ ((raw < -99999 ∨ 99999 < raw) → c.quals.limited = true)
        ∧ ∃ ratio : Int, c.ratio = some ratio
          ∧ ratio = (if raw < -99999 then -99999 else if 99999 < raw then 99999 else raw)
          ∧ (ratio.natAbs ≤ d.inner → c.verdict = .within)
          ∧ (d.inner < ratio.natAbs → ratio.natAbs ≤ d.outer → c.verdict = .marginal)
          ∧ (d.outer < ratio.natAbs → c.verdict = .outside)
          ∧ (ratio.natAbs = 99999 → c.verdict = .outside))

/-- O35. PARTIAL holds exactly when an opening is lacking, a PRESENT or ABSENT declaring station has fewer entries
than it declared, a declaring station is ABSENT, or an UNHEARD station's role owns points. STALE holds exactly when an
entry of an ABSENT station contributes. LIMITED holds exactly when an observation used carries a qualifier or the
ratio was clamped. CLOSED: not PARTIAL and every one of at least one point holds a CLOSING. DEFINITIVE: CLOSED, the
node FINAL and every PRESENT declaring station finalised. Rules R59, R60, R61, R62, R63. -/
def Obligations.ParcelQualifiersSayWhatIsMissing : Prop :=
  ∀ (sh : Sheet) (d : ParcelDef) (r : Reading), 1 ≤ d.number → d.number ≤ 8 →
    let c := compute sh d r
    let own := r.own.filter (fun o => decide (o.parcel = d.number ∧ o.withdrawn = false))
    let entries := r.entries.filter (fun e =>
      decide (e.parcel = d.number ∧ (r.peers.getD e.slot PeerRecord.reset).state ≠ .foreign))
    let view := own.map OwnPoint.view ++ entries.map PeerEntry.view
    let peer := fun (i : Nat) => r.peers.getD i PeerRecord.reset
    let role := fun (i : Nat) => sh.roster.getD i Role.empty
    let station := fun (i : Nat) => i < 16 ∧ i ≠ sh.header.ownSlot ∧ role i ≠ .empty
    let declares := fun (i : Nat) => (peer i).declaredMask.getLsbD (d.number - 1) = true
    let held := fun (i : Nat) => (r.entries.filter (fun e => decide (e.slot = i))).length
    (c.quals.isPartial = true ↔ 0 < c.lackingCount ∨ ∃ i, station i ∧
      ((((peer i).state = .present ∨ (peer i).state = .absent) ∧ declares i ∧ held i < (peer i).declaredCount)
        ∨ ((peer i).state = .absent ∧ declares i)
        ∨ ((peer i).state = .unheard ∧ (role i = .ship ∨ role i = .shoreTanks ∨ role i = .shoreMeters))))
    ∧ (c.quals.stale = true ↔ ∃ e ∈ entries, e.slots.opening.isSome = true ∧ (peer e.slot).state = .absent)
    ∧ (c.quals.limited = true ↔
        (∃ v ∈ view, ∃ o, v.slots.opening = some o ∧ (o.quals ≠ {} ∨ (v.latest o).quals ≠ {}))
        ∨ (c.shipCount ≠ 0 ∧ c.custodyCount ≠ 0 ∧ c.shipAdjusted ≠ 0
            ∧ (rawRatio c.difference c.shipAdjusted < -99999 ∨ 99999 < rawRatio c.difference c.shipAdjusted)))
    ∧ (c.quals.closed = true ↔ c.quals.isPartial = false ∧ view ≠ [] ∧ ∀ v ∈ view, v.slots.closing.isSome = true)
    ∧ (c.quals.definitive = true ↔ c.quals.closed = true ∧ r.node = .final
        ∧ ∀ i, station i → (peer i).state = .present → declares i → (peer i).finalised = true)

/-- O36. A dominant level restarts the quiet count, and in ROUND while awaiting begins a reception when it is a start
bit; when OFF it does nothing. Quiet, once the count is 48, opens a claim window in SEEK and in ROUND while awaiting;
below 48 and elsewhere it does nothing, in ROUND while receiving, sending or driving a mark among it (the model's
choice, log 1). A step with no command waiting is one bit time (the model's choice, log 2): the quiet count counts a
recessive one up to 48 (log 14) and restarts at a dominant one the node drives; a frame being sent moves on by a bit
up to its last stop bit, each byte a dominant start bit, its bits most significant first with a 0 dominant, and a
recessive stop bit; running timers lose a bit time. LDE is asserted exactly while the node drives its claim slot, a
frame or a clash mark; LTX is then dominant for the slot and the mark, and the bit's level for a frame, and recessive
while LDE is released (log 39). Nothing else changes. (The pointer and the model's own marks in a new window: logs 13,
16.) Derived from 05 section 5.1 (R89); 05 section 5.3 (R91); 05 section 5.4 (R95); 06 sections 6.3, 6.4 (R119, R129).
-/
def Obligations.LevelsQuietAndBitTimes : Prop :=
  (∀ (b : Bool) (s : State),
      (s.lau.line = .off → exec (.dominantLevelRead b) s = .next s)
      ∧ (s.lau.line ≠ .off → s.lau.line ≠ .round .awaiting →
          exec (.dominantLevelRead b) s = .next { s with lau := { s.lau with quietCount := 0 } })
      ∧ (s.lau.line = .round .awaiting →
          exec (.dominantLevelRead b) s = .next { s with lau := { s.lau with
            quietCount := 0, lineClear := false, line := .round (if b then .receiving else .awaiting) } }))
  ∧ (∀ (s : State),
      ((s.lau.line = .seek ∨ s.lau.line = .round .awaiting) → 48 ≤ s.lau.quietCount →
          exec .quiet s = .next { s with lau := { s.lau.seeking s.lau.quietCount with line := .window } })
      ∧ ((s.lau.line ≠ .seek ∧ s.lau.line ≠ .round .awaiting ∨ s.lau.quietCount < 48) → exec .quiet s = .next s))
  ∧ (∀ (s : State), s.pending = [] →
      ∃ lau : Lau,
        step s = .next { s with
          lau := lau
          peers := s.peers.map (fun r => { r with timer := r.timer.map (· - 1) })
          pub := { s.pub with presenceTimer := s.pub.presenceTimer.map (· - 1)
                              republishTimer := s.pub.republishTimer.map (· - 1) } }
        ∧ (s.lau.line = .off → lau = s.lau)
        ∧ ((s.lau.line = .seek ∨ s.lau.line = .window ∨ s.lau.line = .round .awaiting ∨ s.lau.line = .round .receiving) →
            s.lau.claiming = false → lau = { s.lau with quietCount := min 48 (s.lau.quietCount + 1) })
        ∧ ((s.lau.line = .round .clashMark ∨ (s.lau.line = .window ∧ s.lau.claiming = true)) →
            lau = { s.lau with quietCount := 0 })
        ∧ (∀ frame n, s.lau.line = .round (.sending frame n) → lau = { s.lau with
            line := .round (.sending frame (if 10 * frame.length ≤ n + 1 then n else n + 1))
            quietCount := if frameBit frame n then 0 else min 48 (s.lau.quietCount + 1) }))
  ∧ (∀ (frame : List Byte) (i : Nat) (b : Byte), frame[i]? = some b →
      frameBit frame (10 * i) = true ∧ frameBit frame (10 * i + 9) = false
      ∧ ∀ k < 8, frameBit frame (10 * i + 1 + k) = !b.getLsbD (7 - k))
  ∧ (∀ l : Lau,
      (l.lde = true ↔ l.claiming = true ∨ l.line = .round .clashMark ∨ ∃ frame n, l.line = .round (.sending frame n))
      ∧ ((l.claiming = true ∨ l.line = .round .clashMark) → l.ltx = true)
      ∧ (∀ frame n, l.claiming = false → l.line = .round (.sending frame n) → l.ltx = frameBit frame n)
      ∧ (l.lde = false → l.ltx = false))

/-- O37. At its one decision in a window the node claims exactly when it is not MUTE and its queue holds a job. A slot
read dominant, or driven by the node itself (log 15), joins the claim word. A window with an empty claim word ends in
SEEK at quiet count 0, another in ROUND with the pointer at the lowest claimant and the claim word kept. A turn
timeout moves the pointer to the next higher claimant, or to none. Outside its state each command changes nothing (the
model's choice, log 1), and no other field changes. (What SEEK holds of the claim word, the pointer and the marks: log
13; the model's own marks: log 16.) Derived from 05 section 5.3 (R92, R93, R94); 05 section 5.6 (R101). -/
def Obligations.WindowsAndTurns : Prop :=
  (∀ (s : State),
      (s.lau.line = .window → s.lau.decided = false → ∃ claims : Bool,
        (claims = true ↔ s.lau.mute = false ∧ s.pub.queue ≠ [])
        ∧ exec .claimDecision s = .next { s with lau := { s.lau with
            decided := true, ownClaim := claims, claiming := claims } })
      ∧ ((s.lau.line ≠ .window ∨ s.lau.decided = true) → exec .claimDecision s = .next s))
  ∧ (∀ (slot : BitVec 4) (dominant : Bool) (s : State),
      (s.lau.line = .window → ∃ word : BitVec 16,
        let level := dominant || (s.lau.claiming && decide (slot.toNat = s.ownSlot))
        (∀ i, word.getLsbD i = (s.lau.claimWord.getLsbD i || (decide (i = slot.toNat) && level)))
        ∧ exec (.claimSlotSample slot dominant) s = .next { s with lau := { s.lau with
            claimWord := word, quietCount := if level then 0 else s.lau.quietCount
            claiming := s.lau.claiming && decide (slot.toNat ≠ s.ownSlot) } })
      ∧ (s.lau.line ≠ .window → exec (.claimSlotSample slot dominant) s = .next s))
  ∧ (∀ (s : State),
      (s.lau.line = .window → s.lau.claimWord = 0 → exec .windowEnd s = .next { s with lau := s.lau.seeking 0 })
      ∧ (∀ i, s.lau.line = .window → IsLowest s.lau.claimWord 0 i →
          exec .windowEnd s = .next { s with lau := { s.lau with
            line := .round .awaiting, pointer := some i, quietCount := 0, lineClear := true, gapPassed := false
            claiming := false, sentInRound := false } })
      ∧ (s.lau.line ≠ .window → exec .windowEnd s = .next s))
  ∧ (∀ (s : State) (i : Nat),
      (s.lau.line = .round .awaiting → s.lau.pointer = some i → ∃ pointer : Option Nat,
        PointsTo s.lau.claimWord (i + 1) pointer
        ∧ exec .turnTimeout s = .next { s with lau := { s.lau with
            pointer := pointer, lineClear := true, gapPassed := false } })
      ∧ ((s.lau.line ≠ .round .awaiting ∨ s.lau.pointer = none) → exec .turnTimeout s = .next s))

/-- O38. When the pointer names the own slot, the node has claimed, the line has stayed recessive since the reference
instant, that instant's turn gap has not passed before, and the node has not sent in this round, TURN_GAP starts the
frame of the head job, marks the job in flight and clears its resend mark; MUTE or without a job it sends nothing; a
job with nothing to publish is removed and nothing is sent. In every other case nothing changes. (The marks for the
line, the gap passed and the frame sent are the model's own, log 16, as is the index of the bit being driven, log 19;
nothing happens outside the rule's conditions, log 1.) Derived from 05 section 5.3 (R94); 05 section 5.5 (R97); 06
section 6.4 (R126); 05 section 5.6 (R101). -/
def Obligations.OwnTurnStartsTheHeadJob : Prop :=
  ∀ (s : State),
    let own := s.lau.line = .round .awaiting ∧ s.lau.pointer = some s.ownSlot ∧ s.lau.ownClaim = true
      ∧ s.lau.lineClear = true ∧ s.lau.gapPassed = false ∧ s.lau.sentInRound = false
    (¬ own → exec .turnGap s = .next s)
    ∧ (own → (s.lau.mute = true ∨ s.pub.queue = []) →
        exec .turnGap s = .next { s with lau := { s.lau with gapPassed := true } })
    ∧ (∀ (j : Job) (rest : List Job), own → s.lau.mute = false → s.pub.queue = j :: rest →
        (s.frameOf j.subject = none → exec .turnGap s = .next { s with
          lau := { s.lau with gapPassed := true }, pub := { s.pub with queue := rest } })
        ∧ ∀ f : Frame, s.frameOf j.subject = some f → exec .turnGap s = .next { s with
          lau := { s.lau with gapPassed := true, line := .round (.sending f.bytes 0), sentInRound := true }
          pub := { s.pub with queue := { j with inFlight := true, resend := false } :: rest } })

/-- O39. Every frame carries the own slot, generation and sequence. A PRESENCE reads back as the own role, state,
sheet name, the number of own points not withdrawn and the mask of their parcels; a withdrawn point as a WITHDRAW; a
point with observations as a FIGURE with one block per held slot carrying the revision, raw fields, stored GSV and
qualifiers; an attest subject as its record's own summary. A point neither withdrawn nor holding, and a record without
summary, have no frame. Every field of a body stands at the offset and width of section 10.1, in the codes of section
10.4. Derived from 06 section 6.4 (R126, R128); 06 section 6.1 (R107, R108); 04 section 4.3 (R80); 01 section 1.5
(R14); 10 section 10.1 (R168); 10 section 10.4. -/
def Obligations.FramesSayWhatTheirSubjectStandsFor : Prop :=
  let kind : PointKind → Nat := fun k => match k with
    | .shipTank => 1 | .shoreTank => 2 | .meter => 3
  ∀ (s : State) (sh : Sheet), s.sheet.sheet = some sh → sh.header.ownSlot < 16 →
    sh.header.number ≤ 4294967295 → sh.header.revision ≤ 65535 → s.table.own.length ≤ 24 →
    (∀ p ∈ s.table.own, p.number < 24 ∧ 1 ≤ p.parcel ∧ p.parcel ≤ 8 ∧ p.meterFactor ≤ 110000
      ∧ ∀ o ∈ p.slots.held, o.revision ≤ 65535 ∧ o.raw.quantity ≤ 4000000000 ∧ o.raw.water ≤ 4000000000
        ∧ -4000 ≤ o.raw.temperature ∧ o.raw.temperature ≤ 15000 ∧ o.std.gsv ≤ 4294967295) →
    let own := fun (f : Frame) => f.source.toNat = sh.header.ownSlot ∧ f.generation = s.pub.generation
      ∧ f.sequence = s.pub.sequence
    let role := sh.roster.getD sh.header.ownSlot Role.empty
    let mine := s.table.own.filter (fun p => !p.withdrawn)
    (role ≠ .empty → ∃ f mask, s.frameOf .presence = some f ∧ own f
      ∧ f.form = some (.presence { role := role, final := decide (s.sheet.node = .final), number := sh.header.number
                                   revision := sh.header.revision, count := mine.length, mask := mask })
      ∧ f.kind = 1 ∧ f.body.length = 10
      ∧ fieldAt f.body 0 1
        = (match role with | .empty => 0 | .ship => 1 | .shoreTanks => 2 | .shoreMeters => 3 | .survey => 4)
      ∧ fieldAt f.body 1 1 = (if s.sheet.node = .final then 4 else 3)
      ∧ fieldAt f.body 2 4 = sh.header.number ∧ fieldAt f.body 6 2 = sh.header.revision
      ∧ fieldAt f.body 8 1 = mine.length ∧ fieldAt f.body 9 1 = mask.toNat
      ∧ ∀ i < 8, (mask.getLsbD i = true ↔ ∃ p ∈ mine, p.parcel = i + 1))
    ∧ (∀ k p, s.table.own.find? (fun q => decide (q.number = k)) = some p →
        (p.withdrawn = true → ∃ f, s.frameOf (.point k) = some f ∧ own f
          ∧ f.form = some (.withdraw k p.kind.code p.parcel)
          ∧ f.kind = 3 ∧ f.body.length = 3
          ∧ fieldAt f.body 0 1 = k ∧ fieldAt f.body 1 1 = kind p.kind ∧ fieldAt f.body 2 1 = p.parcel)
        ∧ (p.withdrawn = false → p.slots.held = [] → s.frameOf (.point k) = none)
        ∧ (p.withdrawn = false → p.slots.held ≠ [] → ∃ f blocks, s.frameOf (.point k) = some f ∧ own f
          ∧ f.form = some (.figure k p.kind.code p.parcel p.meterFactor blocks)
          ∧ blocks = Epoch.inOrder.filterMap (fun e => (p.slots.get e).map (fun o =>
              (e, { revision := o.revision, raw := o.raw, sourceGsv := o.std.gsv, sourceMask := o.std.quals.mask })))
          ∧ f.kind = 2 ∧ f.body.length = 7 + 18 * p.slots.held.length
          ∧ fieldAt f.body 0 1 = k ∧ fieldAt f.body 1 1 = kind p.kind ∧ fieldAt f.body 2 1 = p.parcel
          ∧ (fieldAt f.body 3 1).testBit 0 = p.slots.opening.isSome
          ∧ (fieldAt f.body 3 1).testBit 1 = p.slots.interim.isSome
          ∧ (fieldAt f.body 3 1).testBit 2 = p.slots.closing.isSome ∧ fieldAt f.body 3 1 < 8
          ∧ fieldAt f.body 4 3 = p.meterFactor
          ∧ ∀ (i : Nat) (o : Observation), p.slots.held[i]? = some o →
              let field := fun (offset n : Nat) => fieldAt f.body (7 + 18 * i + offset) n
              field 0 2 = o.revision ∧ field 2 4 = o.raw.quantity ∧ field 6 4 = o.raw.water
              ∧ (BitVec.ofNat 16 (field 10 2)).toInt = o.raw.temperature ∧ field 12 4 = o.std.gsv
              ∧ (field 16 2).testBit 0 = o.std.quals.waterClamp ∧ (field 16 2).testBit 1 = o.std.quals.dtClamp
              ∧ (field 16 2).testBit 2 = o.std.quals.vcfClamp ∧ (field 16 2).testBit 3 = o.std.quals.gsvSat
              ∧ (field 16 2).testBit 4 = o.std.quals.massSat ∧ field 16 2 < 32))
    ∧ (∀ p e r, s.attest.find? (fun q => decide (q.parcel = p ∧ q.epoch = e)) = some r → p ≤ 8 →
        (r.summary = none → s.frameOf (.attest p e) = none)
        ∧ ∀ sum ∈ r.summary, sum.count ≤ 65535 → sum.sum < 2 ^ 48 → ∃ f, s.frameOf (.attest p e) = some f ∧ own f
          ∧ f.form = some (.attest p e.code sum)
          ∧ f.kind = 4 ∧ f.body.length = 10
          ∧ fieldAt f.body 0 1 = p
          ∧ fieldAt f.body 1 1 = (match e with | .opening => 1 | .interim => 2 | .closing => 3)
          ∧ fieldAt f.body 2 2 = sum.count ∧ fieldAt f.body 4 6 = sum.sum)

/-- O40. With the last stop bit begun a send completes: frames-sent and the sequence rise by one, the consecutive
clash count is 0, the pointer moves to the next claimant above the own slot, and the job in flight leaves the queue,
or goes to the tail if it has the resend mark; none in flight (after a RESTART) leaves the queue. A clash, at a
recessive bit before that one, raises both clash counts, keeps the job with its marks cleared and drives a mark; at
its end the LAU enters SEEK at 0 (claim word, pointer, claim and marks: log 13), and at sixteen or more in a row (log
26) the node is MUTE with LINK_FAULT(1). At another bit, and while no frame is sent, both commands change nothing.
(Quiet count after a send: log 14; the bit being driven: log 19.) Derived from 05 section 5.5 (R97, R98); 06 section
6.4 (R127, R128); 05 section 5.7 (R102). -/
def Obligations.SendsEndCompleteOrInAClash : Prop :=
  (∀ (stop : Bool) (s : State) (frame : List Byte) (n : Nat), s.lau.line = .round (.sending frame n) →
    10 * frame.length ≤ n + 1 → ∃ (pointer : Option Nat) (queue : List Job),
      PointsTo s.lau.claimWord (s.ownSlot + 1) pointer
      ∧ ((∀ j ∈ s.pub.queue, j.inFlight = false) → queue = s.pub.queue)
      ∧ (∀ j rest, s.pub.queue = j :: rest → j.inFlight = true → (∀ k ∈ rest, k.inFlight = false) →
          queue = if j.resend then rest ++ [{ subject := j.subject, inFlight := false, resend := false }] else rest)
      ∧ exec (.sendComplete stop) s = .next { s with
          lau := { s.lau with
            line := .round .awaiting, pointer := pointer, lineClear := true, gapPassed := false, clashRun := 0
            framesSent := min 4294967295 (s.lau.framesSent + 1)
            quietCount := if stop then 0 else trailingRecessive frame }
          pub := { s.pub with queue := queue, sequence := s.pub.sequence + 1 } })
  ∧ (∀ (s : State) (frame : List Byte) (n : Nat), s.lau.line = .round (.sending frame n) →
      frameBit frame n = false → n + 1 < 10 * frame.length → exec .clash s = .next { s with
        lau := { s.lau with line := .round .clashMark, quietCount := 0, clashRun := s.lau.clashRun + 1
                            clashes := min 4294967295 (s.lau.clashes + 1) }
        pub := { s.pub with queue := s.pub.queue.map (fun j =>
          if j.inFlight then { j with inFlight := false, resend := false } else j) } })
  ∧ (∀ (s : State), s.lau.line = .round .clashMark → s.lau.clashRun < 16 →
      exec .clashMarkEnd s = .next { s with lau := s.lau.seeking 0 })
  ∧ (∀ (s : State), s.lau.line = .round .clashMark → 16 ≤ s.lau.clashRun →
      exec .clashMarkEnd s = .next { s with lau := { s.lau.seeking 0 with mute := true }
                                            notices := s.notices.raise .linkFault 1 })
  ∧ (∀ (s : State), s.lau.line ≠ .round .clashMark → exec .clashMarkEnd s = .next s)
  ∧ (∀ (stop : Bool) (s : State) (frame : List Byte) (n : Nat), s.lau.line = .round (.sending frame n) →
      (n + 1 < 10 * frame.length → exec (.sendComplete stop) s = .next s)
      ∧ ((frameBit frame n = true ∨ 10 * frame.length ≤ n + 1) → exec .clash s = .next s))
  ∧ (∀ (stop : Bool) (s : State), (∀ frame n, s.lau.line ≠ .round (.sending frame n)) →
      exec (.sendComplete stop) s = .next s ∧ exec .clash s = .next s)

/-- O41. In ROUND, a failed reception raises the check-failure counter, enters SEEK without claim, its quiet count
going on from the last dominant level read, and at the sixteenth in a row raises LINK_FAULT(0) and restarts the run. A
valid frame ends the run, moves the pointer to the lowest claimant above its source, and joins the queue of at most 16
frames or is dropped and counted; from the own slot it is not queued, LINK_FAULT(2) is raised and the node is MUTE.
The quiet count after a frame's bytes is the number of recessive bits at their end: the last stop bit and the 1 bits
just before it. While OFF, sending or driving a mark, nothing is received, and without a reception under way
RECEPTION_FAILED changes nothing. (FRAME_RECEIVED carries a whole frame's bytes and is taken while awaiting too, log
8; claim word, pointer and marks in SEEK, log 13; quiet after a frame, log 14; the run test, log 26.) Derived from 05
section 5.4 (R95, R96); 05 section 5.6 (R99, R100); 06 section 6.2 (R110). -/
def Obligations.ReceptionsEndValidOrFailed : Prop :=
  (∀ (s : State), (s.lau.line = .round .awaiting ∨ s.lau.line = .round .receiving) →
    let failed := fun (quiet : Nat) => ({ s with
      lau := { s.lau.seeking quiet with failureRun := if s.lau.failureRun + 1 < 16 then s.lau.failureRun + 1 else 0 }
      intake := { s.intake with counters := { s.intake.counters with
        checkFailures := min 4294967295 (s.intake.counters.checkFailures + 1) } }
      notices := if s.lau.failureRun + 1 < 16 then s.notices else s.notices.raise .linkFault 0 } : State)
    (s.lau.line = .round .receiving → exec .receptionFailed s = .next (failed s.lau.quietCount))
    ∧ (s.lau.line = .round .awaiting → exec .receptionFailed s = .next s)
    ∧ (∀ bytes, Frame.ofBytes bytes = none → exec (.frameReceived bytes) s = .next (failed (trailingRecessive bytes)))
    ∧ (∀ bytes f, Frame.ofBytes bytes = some f → ∃ pointer : Option Nat,
        PointsTo s.lau.claimWord (f.source.toNat + 1) pointer
        ∧ let lau : Lau := { s.lau with
            line := .round .awaiting, pointer := pointer, lineClear := true, gapPassed := false, failureRun := 0
            quietCount := trailingRecessive bytes }
          (f.source.toNat ≠ s.ownSlot → s.intake.queue.length < 16 → exec (.frameReceived bytes) s = .next { s with
            lau := lau, intake := { s.intake with queue := s.intake.queue ++ [f] } })
          ∧ (f.source.toNat ≠ s.ownSlot → 16 ≤ s.intake.queue.length → exec (.frameReceived bytes) s = .next { s with
            lau := lau
            intake := { s.intake with counters := { s.intake.counters with
              overruns := min 4294967295 (s.intake.counters.overruns + 1) } } })
          ∧ (f.source.toNat = s.ownSlot → exec (.frameReceived bytes) s = .next { s with
            lau := { lau with mute := true }, notices := s.notices.raise .linkFault 2 })))
  ∧ (∀ (bytes : List Byte) (s : State), (s.lau.line = .seek ∨ s.lau.line = .window) →
      exec (.frameReceived bytes) s = .next { s with lau := { s.lau with quietCount := trailingRecessive bytes } }
      ∧ exec .receptionFailed s = .next s)
  ∧ (∀ (bytes : List Byte) (s : State),
      (s.lau.line = .off ∨ s.lau.line = .round .clashMark ∨ ∃ frame n, s.lau.line = .round (.sending frame n)) →
      exec (.frameReceived bytes) s = .next s ∧ exec .receptionFailed s = .next s)
  ∧ (∀ frame : List Byte, frame ≠ [] →
      let last := 10 * frame.length - 1
      let k := trailingRecessive frame
      1 ≤ k ∧ k ≤ 9 ∧ frameBit frame (last - k) = true ∧ ∀ j < k, frameBit frame (last - j) = false)

/-- O42. LINK RESET is refused with STATE before START and otherwise answered ACCEPTED and completed with DONE in one
step: the LAU enters SEEK at 0 with MUTE and both runs cleared and a frame cut, or counted as sent once its last stop
bit has begun (log 19); the receive queue, the frame being merged, the intake counters, the intake's STU request and
the hold are cleared; every peer is UNHEARD without baseline and timer; the recomputes are requested once if a station
changed state; the queue is refilled. Entries, memberships, notices, timers, rotation and generation stay. Derived
from 05 section 5.7 (R103, R104, R105); 01 section 1.6 (R21); 06 section 6.3 (R123); 06 section 6.4 (R130); 02 section
2.2 (R27). -/
def Obligations.LinkResetIsOneStep : Prop :=
  (∀ (s : State), s.portIdle → s.sheet.node ≠ .active → s.sheet.node ≠ .final →
    exec .linkReset s = .next (s.answered .state []))
  ∧ (∀ (s : State), s.portIdle → (s.sheet.node = .active ∨ s.sheet.node = .final) →
      let sent := match s.lau.line with
        | .round (.sending frame n) => decide (10 * frame.length ≤ n + 1)
        | _ => false
      let peers := s.peers.map (fun r => { r with state := .unheard, baseline := none, timer := none })
      let job := fun (sub : Subject) => ({ subject := sub, inFlight := false, resend := false } : Job)
      exec .linkReset s = .next { s with
        port := { s.port with walk := none, reply := [0x01], busy := none, last := .done }
        lau := { s.lau.seeking 0 with
          mute := false, clashRun := 0, failureRun := 0
          framesSent := if sent then min 4294967295 (s.lau.framesSent + 1) else s.lau.framesSent }
        intake := { queue := [], merging := none, counters := {} }
        table := { s.table with hold := { holder := none, waiting := false } }
        stu := { s.stu with
          intakeWaiting := none
          inService := s.stu.inService.filter (fun v => decide (v.requester = .port)) }
        peers := peers
        balance := if ∃ r ∈ s.peers, r.state ≠ .unheard then
            (s.balance.records.map (·.parcel)).foldl (BalanceEngine.request
              { own := s.table.own, entries := s.table.entries, peers := peers, node := s.sheet.node }) s.balance
          else s.balance
        pub := { s.pub with
          sequence := if sent then s.pub.sequence + 1 else s.pub.sequence
          queue := [job .presence]
            ++ (s.table.own.filter (fun p => p.withdrawn || !p.slots.held.isEmpty)).map (fun p => job (.point p.number))
            ++ (s.attest.filter (fun r => r.summary.isSome)).map (fun r => job (.attest r.parcel r.epoch)) } })

/-- O43. Without a frame, with the hold not CLEAR or a frame being merged, INTAKE_TAKE_FRAME does nothing. A frame
from an EMPTY slot is counted as unlisted, one with a bad form as malformed, one other than PRESENCE from an UNHEARD
station as not-present and from a FOREIGN one as foreign; nothing else changes. The form is good exactly for a
PRESENCE of 10 bytes with role 1 to 4, state 3 or 4 and count at most 24, a FIGURE with a mask below 8 and 7 plus 18
bytes for each mask bit, a WITHDRAW of 3 and an ATTEST of 10 bytes. Derived from 06 section 6.2 (R111, R112, R114); 06
section 6.3 (R116, R121); 10 section 10.1 (R168). -/
def Obligations.FramesDiscardedByTheirSourceOrForm : Prop :=
  (∀ (s : State), (s.intake.queue = [] ∨ s.table.hold.holder ≠ none ∨ s.table.hold.waiting = true ∨ s.intake.merging ≠ none) →
    exec .intakeTakeFrame s = .next s)
  ∧ (∀ (s : State) (f : Frame) (rest : List Frame), s.intakeReady f rest →
      let discarded := fun (counters : IntakeCounters) =>
        ({ s with intake := { s.intake with queue := rest, counters := counters } } : State)
      let c := s.intake.counters
      let up := fun (n : Nat) => min 4294967295 (n + 1)
      (s.rosterRole f.source.toNat = .empty →
        exec .intakeTakeFrame s = .next (discarded { c with unlisted := up c.unlisted }))
      ∧ (s.rosterRole f.source.toNat ≠ .empty → f.form = none →
        exec .intakeTakeFrame s = .next (discarded { c with malformed := up c.malformed }))
      ∧ (∀ b, s.rosterRole f.source.toNat ≠ .empty → f.form = some b → (∀ p, b ≠ .presence p) →
        ((s.peer f.source.toNat).state = .unheard →
          exec .intakeTakeFrame s = .next (discarded { c with notPresent := up c.notPresent }))
        ∧ ((s.peer f.source.toNat).state = .foreign →
          exec .intakeTakeFrame s = .next (discarded { c with foreign := up c.foreign }))))
  ∧ (∀ f : Frame,
    let field := fieldAt f.body
    let bits := (if (field 3 1).testBit 0 then 1 else 0) + (if (field 3 1).testBit 1 then 1 else 0)
      + (if (field 3 1).testBit 2 then 1 else 0)
    f.form.isSome = true ↔
      (f.kind = 1 ∧ f.body.length = 10 ∧ 1 ≤ field 0 1 ∧ field 0 1 ≤ 4 ∧ (field 1 1 = 3 ∨ field 1 1 = 4) ∧ field 8 1 ≤ 24)
      ∨ (f.kind = 2 ∧ 7 ≤ f.body.length ∧ field 3 1 < 8 ∧ f.body.length = 7 + 18 * bits)
      ∨ (f.kind = 3 ∧ f.body.length = 3) ∨ (f.kind = 4 ∧ f.body.length = 10))

/-- O44. A matching PRESENCE from an UNHEARD or a FOREIGN station makes it PRESENT: generation and baseline are the
frame's without gap judgement, the silence timer starts at the sheet's timeout, the accepted count rises, heard
values, declared count and mask and the finalised flag are the frame's; every parcel's recompute is requested. An
UNHEARD station whose record keeps another generation first loses its entries and memberships with their fan-out (R43)
and its compute-mismatch flag. Nothing else changes. (The removal's requests come before the others: log 38.) Derived
from 06 section 6.3 (R115, R116, R119, R121, R122); 03 section 3.5 (R64); 02 section 2.5 (R43); 04 section 4.6 (R86).
-/
def Obligations.MatchingPresenceMakesTheStationPresent : Prop :=
  ∀ (s : State) (f : Frame) (rest : List Frame) (p : PresenceBody) (h : Header),
    let slot := f.source.toNat
    let r := s.peer slot
    s.intakeReady f rest → s.rosterRole slot ≠ .empty → f.form = some (.presence p) → s.header? = some h →
    p.role = s.rosterRole slot → p.number = h.number → p.revision = h.revision →
    (r.state = .foreign ∨ r.state = .unheard) →
    let drop := decide (r.state = .unheard ∧ r.generation ≠ none ∧ r.generation ≠ some f.generation)
    let c := if drop then s.stationRemoved slot else s
    let peers := s.peers.set slot { r with
      state := .present, generation := some f.generation, baseline := some f.sequence
      timer := some (h.silence * 250000), accepted := min 4294967295 (r.accepted + 1)
      heard := some { role := p.role, number := p.number, revision := p.revision }
      declaredCount := p.count, declaredMask := p.mask, finalised := p.final, mismatch := r.mismatch && !drop }
    exec .intakeTakeFrame s = .next { c with
      intake := { s.intake with queue := rest }
      peers := peers
      balance := (s.balance.records.map (·.parcel)).foldl (BalanceEngine.request
        { own := s.table.own, entries := c.table.entries, peers := peers, node := s.sheet.node }) c.balance }

/-- O45. From UNHEARD, PRESENT or ABSENT a PRESENCE with another role, sheet number or revision makes the station
FOREIGN with the frame's heard values, its timer stopped and both flags clear; its entries and memberships go with
their fan-out (R43), every parcel's recompute is requested, the foreign counter rises by one and SHEET_MISMATCH is
raised; no frame is accepted, and generation, baseline, declared values and totals stay (log 20). A FOREIGN station's
further mismatch changes the heard values and the counter alone. Nothing else changes. (The removal's requests come
before the others: log 38.) Derived from 06 section 6.3 (R121); 04 section 4.6 (R86); 02 section 2.5 (R43); 03 section
3.5 (R64). -/
def Obligations.MismatchMakesTheStationForeign : Prop :=
  ∀ (s : State) (f : Frame) (rest : List Frame) (p : PresenceBody),
    let slot := f.source.toNat
    let r := s.peer slot
    let heard : HeardValues := { role := p.role, number := p.number, revision := p.revision }
    let intake := { s.intake with queue := rest, counters := { s.intake.counters with
      foreign := min 4294967295 (s.intake.counters.foreign + 1) } }
    s.intakeReady f rest → s.rosterRole slot ≠ .empty → f.form = some (.presence p) →
    ¬ (Body.presence p).agrees s slot →
    (r.state = .foreign → exec .intakeTakeFrame s = .next { s with
      intake := intake, peers := s.peers.set slot { r with heard := some heard } })
    ∧ (r.state ≠ .foreign →
      let c := s.stationRemoved slot
      let peers := s.peers.set slot { r with
        state := .foreign, heard := some heard, timer := none, mismatch := false, finalised := false }
      exec .intakeTakeFrame s = .next { c with
        intake := intake, peers := peers
        notices := c.notices.raise .sheetMismatch slot
        balance := (s.balance.records.map (·.parcel)).foldl (BalanceEngine.request
          { own := s.table.own, entries := c.table.entries, peers := peers, node := s.sheet.node }) c.balance })

/-- O46. For an accepted frame of a PRESENT station with its generation kept, the baseline becomes the frame's
sequence, the timer restarts and the accepted count rises. A gap of 0 counts nothing; a gap of 1..32,767 is added to
the record's missing total and the intake's counter; a larger gap raises the step-backs counter by one, removes the
station's entries and memberships with their fan-out (R43) and clears both its flags. A PRESENCE's contents are taken;
a changed flag or declared value requests every recompute, before the one of an entry that a WITHDRAW removes. Other
records stay, and for a PRESENCE all else. (The removal's requests come before the others: log 38.) Derived from 06
section 6.3 (R117, R118, R122); 02 section 2.5 (R43); 04 section 4.6 (R86); 03 section 3.5 (R64). -/
def Obligations.SequenceIsJudgedAgainstTheBaseline : Prop :=
  ∀ (s : State) (f : Frame) (rest : List Frame) (b : Body) (base : BitVec 16),
    let slot := f.source.toNat
    let r := s.peer slot
    let d := (f.sequence - base - 1).toNat
    s.intakeReady f rest → s.rosterRole slot ≠ .empty → f.form = some b → b.agrees s slot →
    r.state = .present → r.generation = some f.generation → r.baseline = some base →
    let back := decide (32768 ≤ d)
    let counters := { s.intake.counters with
      missing := if 1 ≤ d ∧ d ≤ 32767 then min 4294967295 (s.intake.counters.missing + d) else s.intake.counters.missing
      stepBacks := if back then min 4294967295 (s.intake.counters.stepBacks + 1) else s.intake.counters.stepBacks }
    let after := r.accepting f b s.silenceBits (if back then 0 else d) back
    let c := { (if back then s.stationRemoved slot else s) with
      peers := s.peers.set slot after, intake := { s.intake with queue := rest, counters := counters } }
    let balance := c.requestingAll c.peers (r.keyMoved after back)
    ∃ t : State, exec .intakeTakeFrame s = .next t
      ∧ t.peers = c.peers ∧ t.intake.counters.missing = counters.missing
      ∧ t.intake.counters.stepBacks = counters.stepBacks
      ∧ (back = true → t.table.entries = c.table.entries ∧ t.table.changeCount = c.table.changeCount
          ∧ t.attest = c.attest ∧ t.balance = balance ∧ (b.isFigure = false → t.notices = c.notices))
      ∧ ((∀ point kind parcel : Nat, b ≠ .withdraw point kind parcel) → t.balance = balance)
      ∧ (∀ point kind parcel : Nat, b = .withdraw point kind parcel → 1 ≤ parcel → parcel ≤ 8 →
          (t.table.entries = c.table.entries → t.balance = balance)
          ∧ (t.table.entries ≠ c.table.entries → t.balance = balance.request
            { own := s.table.own, entries := t.table.entries, peers := c.peers, node := s.sheet.node } parcel))
      ∧ (∀ p, b = .presence p → t = { c with balance := balance })

/-- O47. A matching frame of another generation from a PRESENT or ABSENT station removes the station's entries and
memberships with their fan-out (R43), clears both its flags, and takes the frame's generation and sequence without gap
judgement; of the same generation from an ABSENT station it takes the sequence without gap judgement. An ABSENT
station is PRESENT again with PEER_RETURN raised and every recompute requested, whatever the frame, before the one of
an entry that a WITHDRAW removes. The timer restarts, the accepted count rises, a PRESENCE's contents are taken; other
records and the missing counts stay, and for a PRESENCE all else. (The removal's requests come before the others: log
38.) Derived from 06 section 6.3 (R117, R120, R122); 04 section 4.6 (R86); 02 section 2.5 (R43); 03 section 3.5 (R64).
-/
def Obligations.NewGenerationsAndReturns : Prop :=
  ∀ (s : State) (f : Frame) (rest : List Frame) (b : Body),
    let slot := f.source.toNat
    let r := s.peer slot
    s.intakeReady f rest → s.rosterRole slot ≠ .empty → f.form = some b → b.agrees s slot →
    (r.state = .absent ∨ (r.state = .present ∧ r.generation ≠ some f.generation)) →
    let drop := decide (r.generation ≠ some f.generation)
    let notices := if r.state = .absent then s.notices.raise .peerReturn slot else s.notices
    let after := r.accepting f b s.silenceBits 0 drop
    let returned : State := { s with notices := notices }
    let c := { (if drop then returned.stationRemoved slot else returned) with
      peers := s.peers.set slot after, intake := { s.intake with queue := rest } }
    let balance := c.requestingAll c.peers (r.keyMoved after drop)
    ∃ t : State, exec .intakeTakeFrame s = .next t
      ∧ t.peers = c.peers ∧ t.intake.counters.missing = s.intake.counters.missing
      ∧ t.intake.counters.stepBacks = s.intake.counters.stepBacks
      ∧ (drop = true → t.table.entries = c.table.entries ∧ t.table.changeCount = c.table.changeCount
          ∧ t.attest = c.attest ∧ t.balance = balance ∧ (b.isFigure = false → t.notices = c.notices))
      ∧ (r.state = .absent → ∃ n ∈ t.notices.pending, n.kind = .peerReturn ∧ n.subject = slot)
      ∧ ((∀ point kind parcel : Nat, b ≠ .withdraw point kind parcel) → t.balance = balance)
      ∧ (∀ point kind parcel : Nat, b = .withdraw point kind parcel → 1 ≤ parcel → parcel ≤ 8 →
          (t.table.entries = c.table.entries → t.balance = balance)
          ∧ (t.table.entries ≠ c.table.entries → t.balance = balance.request
            { own := s.table.own, entries := t.table.entries, peers := c.peers, node := s.sheet.node } parcel))
      ∧ (∀ p, b = .presence p → t = { c with balance := balance })

/-- O48. For a FIGURE frame that the registry accepts, in order, after a gap, as a step-back, with a new generation or
from a returning station, and that passes the content check, on the state the registry leaves: without an entry and
with fewer than 160 all its blocks go to the STU, each with its raw and source content; with 160 it is dropped,
counted, and TABLE_FULL(0) raised; an entry of another kind, parcel or factor makes it malformed. Else a block for an
absent slot or above the held revision goes to the STU; an equal revision with other raw or source content counts a
conflict and sets the flag, each first setting one change (log 12), at this command also where other blocks are stored
(log 36); a lower revision counts as old; the rest change nothing. No further recompute is requested and nothing else
changes. (A PRESENT station without a baseline: log 25.) (The registry gives a removal's recompute requests before
those of the record change: log 38.) Derived from 02 section 2.5 (R37, R38, R39, R40, R41); 06 section 6.2 (R113); 06
section 6.3 (R117, R118, R120); 01 section 1.6 (R17). -/
def Obligations.FigureFramesAreJudgedBlockByBlock : Prop :=
  
  ∀ (s : State) (f : Frame) (rest : List Frame) (point kindCode parcel factor : Nat) (blocks : List (Epoch × BlockBody))
    (kind : PointKind) (items : List StuItem),
    let slot := f.source.toNat
    s.accepts f rest (.figure point kindCode parcel factor blocks) →
    (s.rosterRole slot).pointKind = some kind → kind.code = kindCode → point ≤ 23 → s.parcelDefined parcel = true →
    meterFactorOk kind factor = true → blockItems kind parcel factor blocks = some items → items ≠ [] →
    let a := s.registered f rest (.figure point kindCode parcel factor blocks)
    let c := a.intake.counters
    let entry := a.table.entries.find? (fun e => decide (e.slot = slot ∧ e.point = point))
    let merging := fun (some_ : List StuItem) => if some_ = [] then none
      else some (Merge.figure slot point kind parcel factor none)
    let waiting := fun (some_ : List StuItem) => if some_ = [] then a.stu else { a.stu with intakeWaiting := some some_ }
    (items.map (fun i => (i.parcel, i.kind, i.meterFactor, i.epoch, i.raw))
        = blocks.map (fun x => (parcel, kind, factor, x.1, x.2.raw))
      ∧ items.map (fun i => i.source.map (fun v => (v.1, v.2.gsv, v.2.quals.mask)))
        = blocks.map (fun x => some (x.2.revision, x.2.sourceGsv, x.2.sourceMask)))
    ∧ (entry = none → a.table.entries.length < 160 → exec .intakeTakeFrame s = .next { a with
        intake := { a.intake with merging := merging items }, stu := waiting items })
    ∧ (entry = none → 160 ≤ a.table.entries.length → exec .intakeTakeFrame s = .next { a with
        notices := a.notices.raise .tableFull 0
        intake := { a.intake with counters := { c with tableFull := min 4294967295 (c.tableFull + 1) } } })
    ∧ (∀ e, entry = some e → (e.kind ≠ kind ∨ e.parcel ≠ parcel ∨ e.meterFactor ≠ factor) →
        exec .intakeTakeFrame s = .next { a with
          intake := { a.intake with counters := { c with malformed := min 4294967295 (c.malformed + 1) } } })
    ∧ (∀ e, entry = some e → e.kind = kind → e.parcel = parcel → e.meterFactor = factor →
        let held := fun (i : StuItem) => e.slots.get i.epoch
        let revision : StuItem → Nat := fun i => (i.source.map (·.1)).getD 0
        let same := fun (i : StuItem) => (held i).any (fun o =>
          decide (o.obs.revision = revision i ∧ o.obs.raw = i.raw ∧ some o.source = i.source.map (·.2)))
        let toStore := items.filter (fun i => (held i).all (fun o => decide (o.obs.revision < revision i)))
        let old := items.filter (fun i => (held i).any (fun o => decide (revision i < o.obs.revision)))
        let conflicts := items.filter (fun i =>
          (held i).any (fun o => decide (o.obs.revision = revision i)) && !same i)
        let fresh := conflicts.filter (fun i => (held i).any (fun o => !o.conflict))
        ∃ slots : Slots PeerObservation,
          exec .intakeTakeFrame s = .next { a with
            table := { a.table with
              changeCount := a.table.changeCount + BitVec.ofNat 32 fresh.length
              entries := a.table.entries.map (fun x =>
                if x.slot = slot ∧ x.point = point then { x with slots := slots } else x) }
            intake := { a.intake with
              merging := merging toStore
              counters := { c with
                oldRevisions := min 4294967295 (c.oldRevisions + old.length)
                conflicts := min 4294967295 (c.conflicts + conflicts.length) } }
            stu := waiting toStore }
          ∧ ∀ ep, slots.get ep = (e.slots.get ep).map (fun o =>
              { o with conflict := o.conflict || conflicts.any (fun i => decide (i.epoch = ep)) }))

/-- O49. On the state that the registry leaves of a frame it accepts, in order, after a gap, as a step-back, with a
new generation or from a returning station: a FIGURE or WITHDRAW frame naming an undefined parcel, a point above 23 or
a kind its roster role does not imply, a FIGURE with no block, a bad factor or a block field out of range, or an
ATTEST naming an undefined parcel or an epoch other than OPENING or CLOSING counts as malformed and changes nothing
else. A good WITHDRAW frame removes the agreeing entry as one change with a recompute, WATCH and marks, is malformed
where the entry disagrees, and without an entry changes nothing. A good ATTEST frame takes the hold. (A PRESENT
station without a baseline: log 25.) (The registry gives a removal's recompute requests before those of the record
change, and a WITHDRAW's own request comes last: log 38.) Derived from 06 section 6.2 (R113); 01 section 1.1 (R2); 02
section 2.5 (R37, R42); 06 section 6.3 (R117, R118, R120); 04 section 4.4 (R81); 02 section 2.2 (R27); 10 section 10.1
(R168). -/
def Obligations.ContentCheckAndWithdrawFrames : Prop :=
  
  (∀ (s : State) (f : Frame) (rest : List Frame) (b : Body), s.accepts f rest b →
    let a := s.registered f rest b
    let slot := f.source.toNat
    let implied := fun (k : Nat) => ∃ kind, (s.rosterRole slot).pointKind = some kind ∧ kind.code = k
    let bad : Prop := match b with
      | .presence _ => False
      | .figure point k parcel factor blocks => s.parcelDefined parcel = false ∨ 23 < point ∨ ¬ implied k
          ∨ blocks = [] ∨ (k = 3 ∧ (factor < 90000 ∨ 110000 < factor)) ∨ (k ≠ 3 ∧ factor ≠ 0)
          ∨ ∃ x ∈ blocks, x.2.revision < 1 ∨ 65535 < x.2.revision ∨ 4000000000 < x.2.raw.quantity
              ∨ 4000000000 < x.2.raw.water ∨ x.2.raw.temperature < -4000 ∨ 15000 < x.2.raw.temperature
              ∨ (k = 3 ∧ x.2.raw.water ≠ 0) ∨ 32 ≤ x.2.sourceMask
      | .withdraw point k parcel => s.parcelDefined parcel = false ∨ 23 < point ∨ ¬ implied k
      | .attest parcel epoch _ => s.parcelDefined parcel = false ∨ (epoch ≠ 1 ∧ epoch ≠ 3)
    bad → exec .intakeTakeFrame s = .next { a with intake := { a.intake with counters := { a.intake.counters with
      malformed := min 4294967295 (a.intake.counters.malformed + 1) } } })
  ∧ (∀ (s : State) (f : Frame) (rest : List Frame) (point parcel : Nat) (kind : PointKind),
      let slot := f.source.toNat
      s.accepts f rest (.withdraw point kind.code parcel) → (s.rosterRole slot).pointKind = some kind → point ≤ 23 →
      s.parcelDefined parcel = true → s.table.entries.Pairwise (fun d e => ¬ (d.slot = e.slot ∧ d.point = e.point)) →
      let a := s.registered f rest (.withdraw point kind.code parcel)
      let entry := a.table.entries.find? (fun e => decide (e.slot = slot ∧ e.point = point))
      (entry = none → exec .intakeTakeFrame s = .next a)
      ∧ (∀ e, entry = some e → (e.kind ≠ kind ∨ e.parcel ≠ parcel) →
          exec .intakeTakeFrame s = .next { a with intake := { a.intake with counters := { a.intake.counters with
            malformed := min 4294967295 (a.intake.counters.malformed + 1) } } })
      ∧ (∀ e, entry = some e → e.kind = kind → e.parcel = parcel → 1 ≤ parcel → parcel ≤ 8 →
          let entries := a.table.entries.filter (fun x => decide (¬ (x.slot = slot ∧ x.point = point)))
          exec .intakeTakeFrame s = .next { a with
            table := { a.table with changeCount := a.table.changeCount + 1, entries := entries }
            notices := a.notices.raiseWatch { slot := slot, point := point }
            attest := a.attest.map (fun r => if r.parcel = parcel ∧ r.epoch ≠ .interim
              ∧ (e.slots.get r.epoch).isSome = true then { r with changedSince := true } else r)
            balance := a.balance.request
              { own := a.table.own, entries := entries, peers := a.peers, node := s.sheet.node } parcel }))
  ∧ (∀ (s : State) (f : Frame) (rest : List Frame) (parcel : Nat) (e : Epoch) (theirs : Summary),
      s.accepts f rest (.attest parcel e.code theirs) → e ≠ .interim → s.parcelDefined parcel = true →
      let a := s.registered f rest (.attest parcel e.code theirs)
      exec .intakeTakeFrame s = .next { a with
        intake := { a.intake with merging := some (.comparison f.source.toNat parcel e theirs) }
        table := { a.table with hold := { holder := some .intake, waiting := false } } })

/-- O50. With the results back and the hold not SET (log 9), the entry, created if there is none, takes each stored
block with its raw and computed fields, source values and mismatch, conflict clear; other slots and entries stay; the
change count rises by one; one recompute is requested; COMPUTE_MISMATCH with the record's flag, LIMIT and WATCH are
raised at most once; OPENING and CLOSING blocks give marks; its service at the STU ends and the frame is finished.
Nothing else changes. Derived from 02 section 2.5 (R41); 01 section 1.5 (R15, R16); 01 section 1.4 (R13); 01 section
1.6 (R18); 08 section 8.6 (R154). -/
def Obligations.MergeIsOneChangeWithItsFanOut : Prop :=
  ∀ (s : State) (slot point parcel factor : Nat) (kind : PointKind) (results : List StuResult),
    s.intake.merging = some (.figure slot point kind parcel factor (some results)) → s.table.hold.holder = none →
    s.table.entries.Pairwise (fun d e => keyBefore d.slot d.point e.slot e.point = true) →
    (results.map (·.item.epoch)).Nodup → (∀ r ∈ results, r.item.source.isSome = true) →
    let old := s.table.entries.find? (fun e => decide (e.slot = slot ∧ e.point = point))
    let differs := results.any (·.mismatch)
    let limited := results.any (fun r => decide (r.std.quals ≠ {}))
    ∃ t : State, exec .frameMerge s = .next t
      ∧ t.intake = { s.intake with merging := none }
      ∧ t.table = { s.table with changeCount := s.table.changeCount + 1, entries := t.table.entries }
      ∧ (∀ e : PeerEntry, ¬ (e.slot = slot ∧ e.point = point) → (e ∈ t.table.entries ↔ e ∈ s.table.entries))
      ∧ (∃ e ∈ t.table.entries, e.slot = slot ∧ e.point = point
          ∧ (∀ o, old = some o → e.kind = o.kind ∧ e.parcel = o.parcel ∧ e.meterFactor = o.meterFactor)
          ∧ (old = none → e.kind = kind ∧ e.parcel = parcel ∧ e.meterFactor = factor)
          ∧ (∀ r ∈ results, ∀ src ∈ r.item.source, e.slots.get r.item.epoch = some
              { obs := { revision := src.1, raw := r.item.raw, std := r.std }, source := src.2, mismatch := r.mismatch
                conflict := false })
          ∧ (∀ ep, (∀ r ∈ results, r.item.epoch ≠ ep) → e.slots.get ep = old.bind (·.slots.get ep)))
      ∧ t.table.entries.Pairwise (fun d e => keyBefore d.slot d.point e.slot e.point = true)
      ∧ t.balance = s.balance.request
          { own := s.table.own, entries := t.table.entries, peers := s.peers, node := s.sheet.node } parcel
      ∧ t.peers = (if differs then s.peers.set slot { s.peer slot with mismatch := true } else s.peers)
      ∧ t.notices = (let a := if differs then s.notices.raise .computeMismatch slot else s.notices
                     let b := if limited then a.raise .limit parcel else a
                     b.raiseWatch { slot := slot, point := point })
      ∧ t.attest = s.attest.map (fun r => if r.parcel = parcel ∧ r.epoch ≠ .interim
          ∧ (∃ x ∈ results, x.item.epoch = r.epoch) then { r with changedSince := true } else r)
      ∧ t.stu = { s.stu with inService := s.stu.inService.filter (fun v => decide (v.requester = .port)) }
      ∧ t.sheet = s.sheet ∧ t.lau = s.lau ∧ t.pub = s.pub ∧ t.port = s.port ∧ t.pending = s.pending
      ∧ t.resetAsserted = s.resetAsserted ∧ t.freeIx = s.freeIx

/-- O51. With its timer run down to 0 a silence expiry makes a PRESENT station ABSENT with its timer stopped and
PEER_ABSENT raised, every parcel's recompute requested. At 0 a presence expiry gives PRESENCE, a republish expiry the
next eligible subject after the rotation position, wrapping, each only where no job for it is queued, and each timer
starts again; with none eligible nothing is given. A timer stopped or above 0 does not expire (log 2). A subject given
with its job queued leaves the queue but for a resend mark in flight, else joins the tail. Nothing else changes.
Derived from 06 section 6.3 (R119); 06 section 6.4 (R124, R125, R129); 03 section 3.5 (R64). -/
def Obligations.TimersAndTheirSubjects : Prop :=
  (∀ (slot : BitVec 4) (s : State),
    let r := s.peer slot.toNat
    let peers := s.peers.set slot.toNat { r with state := .absent, timer := none }
    (r.state = .present → r.timer = some 0 → exec (.silenceTimerExpiry slot) s = .next { s with
      peers := peers
      balance := (s.balance.records.map (·.parcel)).foldl (BalanceEngine.request
        { own := s.table.own, entries := s.table.entries, peers := peers, node := s.sheet.node }) s.balance
      notices := s.notices.raise .peerAbsent slot.toNat })
    ∧ ((r.state ≠ .present ∨ r.timer ≠ some 0) → exec (.silenceTimerExpiry slot) s = .next s))
  ∧ (∀ (s : State), s.pub.presenceTimer = some 0 →
      exec .presenceTimerExpiry s = .next { s with pub := { s.pub with
        presenceTimer := some 2000000
        queue := if ∃ j ∈ s.pub.queue, j.subject = .presence then s.pub.queue
          else s.pub.queue ++ [{ subject := .presence, inFlight := false, resend := false }] } })
  ∧ (∀ (s : State) (h : Header), s.header? = some h → s.pub.republishTimer = some 0 →
      let points := (s.table.own.filter (fun p => p.withdrawn || !p.slots.held.isEmpty)).map (fun p => Subject.point p.number)
      let summaries := (s.attest.filter (fun r => r.summary.isSome)).map (fun r => Subject.attest r.parcel r.epoch)
      let eligible := points ++ summaries
      let place : Subject → Nat := fun sub => match sub with
        | .presence => 0
        | .point k => 1 + k
        | .attest p e => 1000 + 4 * p + e.code
      let restarted : Publisher := { s.pub with republishTimer := some (h.republish * 250000) }
      (eligible = [] → exec .republishTimerExpiry s = .next { s with pub := restarted })
      ∧ ∀ sub, ((∀ cur, s.pub.rotation = some cur → eligible.find? (fun x => decide (place cur < place x)) = some sub
              ∨ (eligible.find? (fun x => decide (place cur < place x)) = none ∧ eligible.head? = some sub))
            ∧ (s.pub.rotation = none → eligible.head? = some sub)) →
          exec .republishTimerExpiry s = .next { s with pub := { restarted with
            rotation := some sub
            queue := if ∃ j ∈ s.pub.queue, j.subject = sub then s.pub.queue
              else s.pub.queue ++ [{ subject := sub, inFlight := false, resend := false }] } })
  ∧ (∀ (s : State), (s.pub.presenceTimer ≠ some 0 → exec .presenceTimerExpiry s = .next s)
      ∧ (s.pub.republishTimer ≠ some 0 → exec .republishTimerExpiry s = .next s))
  ∧ (∀ (p : Publisher) (sub : Subject),
      ((∀ j ∈ p.queue, j.subject ≠ sub) →
        p.give sub = { p with queue := p.queue ++ [{ subject := sub, inFlight := false, resend := false }] })
      ∧ ((∃ j ∈ p.queue, j.subject = sub) → p.give sub = { p with queue := p.queue.map (fun j =>
          if j.subject = sub ∧ j.inFlight = true then { j with resend := true } else j) }))

/-- O52. State.reset meets each of the invariants that the following statements say every step keeps. Derived from 07
section 7.4 (R142); 02 section 2.6 (R45); 08 section 8.7 (R155). -/
def Obligations.ResetMeetsTheInvariants : Prop :=
  PendingOk State.reset.notices.pending ∧ SheetInv State.reset ∧ IdleInv State.reset ∧ TransmitInv State.reset
  ∧ SetsDisjoint State.reset ∧ OwnSlotInv State.reset ∧ TableInv State.reset ∧ BalanceInv State.reset
  ∧ PeersInv State.reset ∧ LineInv State.reset ∧ HoldInv State.reset ∧ ProtectionInv State.reset

/-- O53. Every step keeps the pending set without two entries of one kind and subject, in presentation order, each
repeat count at most 255. Derived from 08 sections 8.1, 8.4 (R143, R144, R150). -/
def Obligations.PendingSetStaysOrderedAndDistinct : Prop :=
  (∀ (s t : State), PendingOk s.notices.pending → step s = .next t → PendingOk t.notices.pending)

/-- O54. Every step keeps: a sheet held and in range in every state but BLANK, and long operations only in the states
that admit them; before START every block at its power-on values; the LAU OFF exactly then, a MUTE node driving
nothing; the permit clear under amend mode NONE, and every own point THROUGH_CLOSING in FINAL. Derived from 07
sections 7.3, 7.4 (R138, R140); 05 sections 5.2, 5.6 (R90, R101); 02 section 2.3 (R32, R34). -/
def Obligations.NodeStateLineAndProtectionStayTogether : Prop :=
  (∀ (s t : State), (IdleInv s ∧ LineInv s ∧ ProtectionInv s) → step s = .next t → (IdleInv t ∧ LineInv t ∧ ProtectionInv t))

/-- O55. Every step keeps the transmit job queue without two jobs for one subject, each subject one of PRESENCE, the
24 points and the 16 attest subjects; with that the queue holds at most 41 jobs. Derived from 06 section 6.4 (R124,
R125, R130). -/
def Obligations.TransmitQueueHoldsEachSubjectOnce : Prop :=
  (∀ (s t : State), TransmitInv s → step s = .next t → TransmitInv t)
  ∧ ∀ s : State, TransmitInv s → s.pub.queue.length ≤ 41

/-- O56. Every step keeps the peer entries in strictly ascending key, so without two of one key, with keys in range,
never more than 160, with room for the entry a frame at the STU will create; and nothing of the own slot in the queue,
in a merge, in the table, in an attest set or in its peer record. Derived from 02 section 2.1 (R24, R25); 02 section
2.5 (R38). -/
def Obligations.TableKeepsItsKeysOrderAndCapacity : Prop :=
  (∀ (s t : State), (TableInv s ∧ OwnSlotInv s) → step s = .next t → (TableInv t ∧ OwnSlotInv t))

/-- O57. Every step keeps each parcel at most once in the recompute queue and exactly when its status is QUEUED, and a
parcel COMPUTING or COMPUTING_REDO exactly when it is the one being computed. Every step also keeps the four counts of
each parcel record at 184 together at most, the readings kept for a computation at 24 own points and 160 entries at
most. Derived from 03 section 3.5 (R65, R66); 03 section 3.1 (R49); 02 section 2.5 (R38). -/
def Obligations.RecomputeQueueMatchesTheStatuses : Prop :=
  (∀ (s t : State), BalanceInv s → step s = .next t → BalanceInv t)
  ∧ CountsInv State.reset
  ∧ (∀ (s t : State), CountsInv s → step s = .next t → CountsInv t)

/-- O58. Every step keeps: the Frame Intake holding exactly while it compares, the Attestation Unit holding or waiting
exactly while an ATTEST is in flight and holding only with no frame being merged; sixteen peer records whose silence
timer runs exactly while PRESENT; no station in both sets of an attest record. Derived from 02 section 2.2 (R27); 06
section 6.3 (R115, R119); 04 section 4.1 (R74). -/
def Obligations.HoldPeersAndSetsStayConsistent : Prop :=
  (∀ (s t : State), (HoldInv s ∧ PeersInv s ∧ SetsDisjoint s) → step s = .next t → (HoldInv t ∧ PeersInv t ∧ SetsDisjoint t))

/-- O59. For every well-formed request, with every operand at every value its width admits, the bytes of its code and
parameters, followed by any further bytes, are decoded to that request; the code byte of each is that of section 10.4
and its parameters stand in the order and widths of section 10.2, and any other code names no request; with any
parameter byte missing no request is taken. SDO carries 0x00 during the code and the parameters, then the reply held,
then 0x00; it is not driven with SEL high or while RESET is asserted. Bits go in and out most significant first. (SDO
shows the reply in State, log 4.) Derived from 10 section 10.2 (R170); 10 section 10.4; 09 section 9.1 (R156, R157).
-/
def Obligations.RequestsDecodeToWhatWasEncoded : Prop :=
  (∀ (i : Instr) (bytes extra : List Byte), i.wellFormed = true → encodeRequest i = some bytes →
      decodeRequest (bytes ++ extra) = .taken i)
  ∧ (∀ (i : Instr) (bytes : List Byte) (n : Nat), isRequest i = true → encodeRequest i = some bytes → n < bytes.length →
      decodeRequest (bytes.take n) = .notTaken)
  ∧ (∀ (selLow : Bool) (sent : List Byte) (s : State), (selLow = false ∨ s.resetAsserted = true) →
      s.sdo selLow sent = none)
  ∧ (∀ (i : Instr) (bytes extra : List Byte) (s : State), i.wellFormed = true → encodeRequest i = some bytes → s.takes →
      (∀ n < bytes.length, s.sdo true (bytes.take n) = some 0)
      ∧ s.sdo true (bytes ++ extra) = some (s.port.reply.getD extra.length 0))
  ∧ (∀ (bytes : List Byte) (tail : List Bool) (s : State) (b : Byte), tail.length < 8 →
      let bits := bytes.flatMap (fun x => (List.range 8).map (fun k => x.getLsbD (7 - k))) ++ tail
      bytesOfBits bits = bytes
      ∧ (s.sdo true bytes = some b → s.sdoLevel true bits = some (b.getLsbD (7 - tail.length))))
  ∧ (encodeRequest .status = some [0x01] ∧ encodeRequest .identify = some [0x02] ∧ encodeRequest .sheetEnd = some [0x14]
      ∧ encodeRequest .start = some [0x15] ∧ encodeRequest .permit = some [0x21] ∧ encodeRequest .revoke = some [0x22]
      ∧ encodeRequest .finalise = some [0x25] ∧ encodeRequest .restart = some [0x26]
      ∧ encodeRequest .linkReset = some [0x27] ∧ encodeRequest .serviceQuery = some [0x30]
      ∧ encodeRequest .readCounters = some [0x45] ∧ encodeRequest .readNotices = some [0x47])
  ∧ (∀ a b c : Byte, encodeRequest (.sheetRoster a b) = some [0x12, a, b] ∧ encodeRequest (.withdraw a) = some [0x23, a]
      ∧ encodeRequest (.attest a b) = some [0x24, a, b] ∧ encodeRequest (.acknowledge a b) = some [0x31, a, b]
      ∧ encodeRequest (.noticeEnable a b) = some [0x32, a, b] ∧ encodeRequest (.edgeSelect a b) = some [0x33, a, b]
      ∧ encodeRequest (.watchAdd a b) = some [0x34, a, b] ∧ encodeRequest (.watchRemove a b) = some [0x35, a, b]
      ∧ encodeRequest (.readPoint a) = some [0x40, a] ∧ encodeRequest (.readEntry a b c) = some [0x41, a, b, c]
      ∧ encodeRequest (.readParcel a) = some [0x42, a] ∧ encodeRequest (.readAttest a b) = some [0x43, a, b]
      ∧ encodeRequest (.readPeer a) = some [0x44, a] ∧ encodeRequest (.walk a) = some [0x46, a]
      ∧ encodeRequest (.unknownRequest a) = some [a])
  ∧ (∀ (number : BitVec 32) (revision silence : BitVec 16) (own direction mode republish : Byte), ∃ bytes,
      encodeRequest (.sheetBegin number revision own direction mode silence republish) = some bytes ∧ bytes.length = 13
      ∧ fieldAt bytes 0 1 = 0x10 ∧ fieldAt bytes 1 4 = number.toNat ∧ fieldAt bytes 5 2 = revision.toNat
      ∧ slice bytes 7 3 = [own, direction, mode] ∧ fieldAt bytes 10 2 = silence.toNat ∧ slice bytes 12 1 = [republish])
  ∧ (∀ (parcel custody : Byte) (tRef a b d inner outer : BitVec 16) (vef : BitVec 24), ∃ bytes,
      encodeRequest (.sheetParcel parcel tRef a b d vef inner outer custody) = some bytes ∧ bytes.length = 18
      ∧ fieldAt bytes 0 1 = 0x11 ∧ slice bytes 1 1 = [parcel] ∧ fieldAt bytes 2 2 = tRef.toNat
      ∧ fieldAt bytes 4 2 = a.toNat ∧ fieldAt bytes 6 2 = b.toNat ∧ fieldAt bytes 8 2 = d.toNat
      ∧ fieldAt bytes 10 3 = vef.toNat ∧ fieldAt bytes 13 2 = inner.toNat ∧ fieldAt bytes 15 2 = outer.toNat
      ∧ slice bytes 17 1 = [custody])
  ∧ (∀ (point parcel epoch : Byte) (factor : BitVec 24) (quantity water : BitVec 32) (temperature : BitVec 16),
      (∃ bytes, encodeRequest (.sheetPoint point parcel factor) = some bytes ∧ bytes.length = 6
        ∧ fieldAt bytes 0 1 = 0x13 ∧ slice bytes 1 2 = [point, parcel] ∧ fieldAt bytes 3 3 = factor.toNat)
      ∧ ∃ bytes, encodeRequest (.post point epoch quantity water temperature) = some bytes ∧ bytes.length = 13
        ∧ fieldAt bytes 0 1 = 0x20 ∧ slice bytes 1 2 = [point, epoch] ∧ fieldAt bytes 3 4 = quantity.toNat
        ∧ fieldAt bytes 7 4 = water.toNat ∧ fieldAt bytes 11 2 = temperature.toNat)
  ∧ (let codes : List Byte := [0x01, 0x02, 0x10, 0x11, 0x12, 0x13, 0x14, 0x15, 0x20, 0x21, 0x22, 0x23, 0x24, 0x25, 0x26,
       0x27, 0x30, 0x31, 0x32, 0x33, 0x34, 0x35, 0x40, 0x41, 0x42, 0x43, 0x44, 0x45, 0x46, 0x47]
     ∀ code : Byte, (paramBytes code = none ↔ code ∉ codes)
       ∧ (code ∉ codes → ∀ rest, decodeRequest (code :: rest) = .taken (.unknownRequest code)))

/-- O60. A frame is sent as 0xA7, kind in the upper and source in the lower four bits, generation, sequence, body
length, body, and the check over all but the start byte, upper byte first; the check's register starts at 0xFFFF and
takes each byte into its upper half and eight steps with 0x8005. Those bytes are received as the same frame, whatever
its fields; with another start byte, any other two bytes in place of its check, a body length above 61 or another
number of bytes the reception fails. Derived from 06 section 6.1 (R107, R109); 10 section 10.1 (R168, R169). -/
def Obligations.FramesDecodeToWhatWasSent : Prop :=
  (∀ f : Frame, f.body.length ≤ 61 → Frame.ofBytes f.bytes = some f)
  ∧ (∀ (f : Frame) (a b : Byte), f.body.length ≤ 61 → a ++ b ≠ crc f.checked →
      Frame.ofBytes (0xA7 :: f.checked ++ [a, b]) = none)
  ∧ (∀ (f : Frame) (start : Byte) (rest : List Byte), f.bytes = 0xA7 :: rest → start ≠ 0xA7 →
      Frame.ofBytes (start :: rest) = none)
  ∧ (∀ f : Frame, f.body.length ≤ 61 →
      let n := f.body.length
      f.bytes.length = 8 + n
      ∧ fieldAt f.bytes 0 1 = 0xA7 ∧ fieldAt f.bytes 1 1 = 16 * f.kind.toNat + f.source.toNat
      ∧ fieldAt f.bytes 2 1 = f.generation.toNat ∧ fieldAt f.bytes 3 2 = f.sequence.toNat ∧ fieldAt f.bytes 5 1 = n
      ∧ slice f.bytes 6 n = f.body
      ∧ slice f.bytes 1 (5 + n) = f.checked ∧ fieldAt f.bytes (6 + n) 2 = (crc f.checked).toNat)
  ∧ (let step : BitVec 16 → BitVec 16 := fun r => if r.getLsbD 15 then (r <<< 1) ^^^ 0x8005 else r <<< 1
     crc [] = 0xFFFF
     ∧ ∀ (bytes : List Byte) (b : Byte), crc (bytes ++ [b])
        = step (step (step (step (step (step (step (step (crc bytes ^^^ (b ++ (0x00 : Byte)))))))))))
  ∧ (∀ bytes : List Byte, (bytes.getD 0 0 ≠ 0xA7 ∨ 61 < fieldAt bytes 5 1 ∨ bytes.length ≠ 8 + fieldAt bytes 5 1) →
      Frame.ofBytes bytes = none)

end
end

