-- ==== Sys2Proof/Laws/State.lean ====
section
/-! SUPPORT. One lemma per field per named operation: what the operation leaves unchanged, and what it makes of the field it
changes. Later proofs rewrite with these and never unfold an operation for a field it does not touch. -/

namespace Sys2Proof.Machine

/-! `State.raise` -/

@[simp] theorem State.raise_sheet (k : NoticeKind) (j : Nat) (s : State) :
    (s.raise k j).sheet = s.sheet := rfl
@[simp] theorem State.raise_stu (k : NoticeKind) (j : Nat) (s : State) :
    (s.raise k j).stu = s.stu := rfl
@[simp] theorem State.raise_table (k : NoticeKind) (j : Nat) (s : State) :
    (s.raise k j).table = s.table := rfl
@[simp] theorem State.raise_balance (k : NoticeKind) (j : Nat) (s : State) :
    (s.raise k j).balance = s.balance := rfl
@[simp] theorem State.raise_attest (k : NoticeKind) (j : Nat) (s : State) :
    (s.raise k j).attest = s.attest := rfl
@[simp] theorem State.raise_lau (k : NoticeKind) (j : Nat) (s : State) :
    (s.raise k j).lau = s.lau := rfl
@[simp] theorem State.raise_intake (k : NoticeKind) (j : Nat) (s : State) :
    (s.raise k j).intake = s.intake := rfl
@[simp] theorem State.raise_peers (k : NoticeKind) (j : Nat) (s : State) :
    (s.raise k j).peers = s.peers := rfl
@[simp] theorem State.raise_pub (k : NoticeKind) (j : Nat) (s : State) :
    (s.raise k j).pub = s.pub := rfl
@[simp] theorem State.raise_port (k : NoticeKind) (j : Nat) (s : State) :
    (s.raise k j).port = s.port := rfl
@[simp] theorem State.raise_resetAsserted (k : NoticeKind) (j : Nat) (s : State) :
    (s.raise k j).resetAsserted = s.resetAsserted := rfl
@[simp] theorem State.raise_freeIx (k : NoticeKind) (j : Nat) (s : State) :
    (s.raise k j).freeIx = s.freeIx := rfl
@[simp] theorem State.raise_pending (k : NoticeKind) (j : Nat) (s : State) :
    (s.raise k j).pending = s.pending := rfl

/-! `State.raiseIf` -/

@[simp] theorem State.raiseIf_sheet (c : Bool) (k : NoticeKind) (j : Nat) (s : State) :
    (s.raiseIf c k j).sheet = s.sheet := by cases c <;> rfl
@[simp] theorem State.raiseIf_stu (c : Bool) (k : NoticeKind) (j : Nat) (s : State) :
    (s.raiseIf c k j).stu = s.stu := by cases c <;> rfl
@[simp] theorem State.raiseIf_table (c : Bool) (k : NoticeKind) (j : Nat) (s : State) :
    (s.raiseIf c k j).table = s.table := by cases c <;> rfl
@[simp] theorem State.raiseIf_balance (c : Bool) (k : NoticeKind) (j : Nat) (s : State) :
    (s.raiseIf c k j).balance = s.balance := by cases c <;> rfl
@[simp] theorem State.raiseIf_attest (c : Bool) (k : NoticeKind) (j : Nat) (s : State) :
    (s.raiseIf c k j).attest = s.attest := by cases c <;> rfl
@[simp] theorem State.raiseIf_lau (c : Bool) (k : NoticeKind) (j : Nat) (s : State) :
    (s.raiseIf c k j).lau = s.lau := by cases c <;> rfl
@[simp] theorem State.raiseIf_intake (c : Bool) (k : NoticeKind) (j : Nat) (s : State) :
    (s.raiseIf c k j).intake = s.intake := by cases c <;> rfl
@[simp] theorem State.raiseIf_peers (c : Bool) (k : NoticeKind) (j : Nat) (s : State) :
    (s.raiseIf c k j).peers = s.peers := by cases c <;> rfl
@[simp] theorem State.raiseIf_pub (c : Bool) (k : NoticeKind) (j : Nat) (s : State) :
    (s.raiseIf c k j).pub = s.pub := by cases c <;> rfl
@[simp] theorem State.raiseIf_port (c : Bool) (k : NoticeKind) (j : Nat) (s : State) :
    (s.raiseIf c k j).port = s.port := by cases c <;> rfl
@[simp] theorem State.raiseIf_resetAsserted (c : Bool) (k : NoticeKind) (j : Nat) (s : State) :
    (s.raiseIf c k j).resetAsserted = s.resetAsserted := by cases c <;> rfl
@[simp] theorem State.raiseIf_freeIx (c : Bool) (k : NoticeKind) (j : Nat) (s : State) :
    (s.raiseIf c k j).freeIx = s.freeIx := by cases c <;> rfl
@[simp] theorem State.raiseIf_pending (c : Bool) (k : NoticeKind) (j : Nat) (s : State) :
    (s.raiseIf c k j).pending = s.pending := by cases c <;> rfl

/-! `State.raiseWatch` -/

@[simp] theorem State.raiseWatch_sheet (slot point : Nat) (s : State) :
    (s.raiseWatch slot point).sheet = s.sheet := rfl
@[simp] theorem State.raiseWatch_stu (slot point : Nat) (s : State) :
    (s.raiseWatch slot point).stu = s.stu := rfl
@[simp] theorem State.raiseWatch_table (slot point : Nat) (s : State) :
    (s.raiseWatch slot point).table = s.table := rfl
@[simp] theorem State.raiseWatch_balance (slot point : Nat) (s : State) :
    (s.raiseWatch slot point).balance = s.balance := rfl
@[simp] theorem State.raiseWatch_attest (slot point : Nat) (s : State) :
    (s.raiseWatch slot point).attest = s.attest := rfl
@[simp] theorem State.raiseWatch_lau (slot point : Nat) (s : State) :
    (s.raiseWatch slot point).lau = s.lau := rfl
@[simp] theorem State.raiseWatch_intake (slot point : Nat) (s : State) :
    (s.raiseWatch slot point).intake = s.intake := rfl
@[simp] theorem State.raiseWatch_peers (slot point : Nat) (s : State) :
    (s.raiseWatch slot point).peers = s.peers := rfl
@[simp] theorem State.raiseWatch_pub (slot point : Nat) (s : State) :
    (s.raiseWatch slot point).pub = s.pub := rfl
@[simp] theorem State.raiseWatch_port (slot point : Nat) (s : State) :
    (s.raiseWatch slot point).port = s.port := rfl
@[simp] theorem State.raiseWatch_resetAsserted (slot point : Nat) (s : State) :
    (s.raiseWatch slot point).resetAsserted = s.resetAsserted := rfl
@[simp] theorem State.raiseWatch_freeIx (slot point : Nat) (s : State) :
    (s.raiseWatch slot point).freeIx = s.freeIx := rfl
@[simp] theorem State.raiseWatch_pending (slot point : Nat) (s : State) :
    (s.raiseWatch slot point).pending = s.pending := rfl

/-! `State.requestAll` -/

@[simp] theorem State.requestAll_sheet (ps : List Nat) (s : State) :
    (s.requestAll ps).sheet = s.sheet := rfl
@[simp] theorem State.requestAll_stu (ps : List Nat) (s : State) :
    (s.requestAll ps).stu = s.stu := rfl
@[simp] theorem State.requestAll_table (ps : List Nat) (s : State) :
    (s.requestAll ps).table = s.table := rfl
@[simp] theorem State.requestAll_attest (ps : List Nat) (s : State) :
    (s.requestAll ps).attest = s.attest := rfl
@[simp] theorem State.requestAll_lau (ps : List Nat) (s : State) :
    (s.requestAll ps).lau = s.lau := rfl
@[simp] theorem State.requestAll_intake (ps : List Nat) (s : State) :
    (s.requestAll ps).intake = s.intake := rfl
@[simp] theorem State.requestAll_peers (ps : List Nat) (s : State) :
    (s.requestAll ps).peers = s.peers := rfl
@[simp] theorem State.requestAll_pub (ps : List Nat) (s : State) :
    (s.requestAll ps).pub = s.pub := rfl
@[simp] theorem State.requestAll_notices (ps : List Nat) (s : State) :
    (s.requestAll ps).notices = s.notices := rfl
@[simp] theorem State.requestAll_port (ps : List Nat) (s : State) :
    (s.requestAll ps).port = s.port := rfl
@[simp] theorem State.requestAll_resetAsserted (ps : List Nat) (s : State) :
    (s.requestAll ps).resetAsserted = s.resetAsserted := rfl
@[simp] theorem State.requestAll_freeIx (ps : List Nat) (s : State) :
    (s.requestAll ps).freeIx = s.freeIx := rfl
@[simp] theorem State.requestAll_pending (ps : List Nat) (s : State) :
    (s.requestAll ps).pending = s.pending := rfl

/-! `State.request` -/

@[simp] theorem State.request_sheet (p : Nat) (s : State) :
    (s.request p).sheet = s.sheet := rfl
@[simp] theorem State.request_stu (p : Nat) (s : State) :
    (s.request p).stu = s.stu := rfl
@[simp] theorem State.request_table (p : Nat) (s : State) :
    (s.request p).table = s.table := rfl
@[simp] theorem State.request_attest (p : Nat) (s : State) :
    (s.request p).attest = s.attest := rfl
@[simp] theorem State.request_lau (p : Nat) (s : State) :
    (s.request p).lau = s.lau := rfl
@[simp] theorem State.request_intake (p : Nat) (s : State) :
    (s.request p).intake = s.intake := rfl
@[simp] theorem State.request_peers (p : Nat) (s : State) :
    (s.request p).peers = s.peers := rfl
@[simp] theorem State.request_pub (p : Nat) (s : State) :
    (s.request p).pub = s.pub := rfl
@[simp] theorem State.request_notices (p : Nat) (s : State) :
    (s.request p).notices = s.notices := rfl
@[simp] theorem State.request_port (p : Nat) (s : State) :
    (s.request p).port = s.port := rfl
@[simp] theorem State.request_resetAsserted (p : Nat) (s : State) :
    (s.request p).resetAsserted = s.resetAsserted := rfl
@[simp] theorem State.request_freeIx (p : Nat) (s : State) :
    (s.request p).freeIx = s.freeIx := rfl
@[simp] theorem State.request_pending (p : Nat) (s : State) :
    (s.request p).pending = s.pending := rfl

/-! `State.mark` -/

@[simp] theorem State.mark_sheet (p : Nat) (e : Epoch) (s : State) :
    (s.mark p e).sheet = s.sheet := rfl
@[simp] theorem State.mark_stu (p : Nat) (e : Epoch) (s : State) :
    (s.mark p e).stu = s.stu := rfl
@[simp] theorem State.mark_table (p : Nat) (e : Epoch) (s : State) :
    (s.mark p e).table = s.table := rfl
@[simp] theorem State.mark_balance (p : Nat) (e : Epoch) (s : State) :
    (s.mark p e).balance = s.balance := rfl
@[simp] theorem State.mark_lau (p : Nat) (e : Epoch) (s : State) :
    (s.mark p e).lau = s.lau := rfl
@[simp] theorem State.mark_intake (p : Nat) (e : Epoch) (s : State) :
    (s.mark p e).intake = s.intake := rfl
@[simp] theorem State.mark_peers (p : Nat) (e : Epoch) (s : State) :
    (s.mark p e).peers = s.peers := rfl
@[simp] theorem State.mark_pub (p : Nat) (e : Epoch) (s : State) :
    (s.mark p e).pub = s.pub := rfl
@[simp] theorem State.mark_notices (p : Nat) (e : Epoch) (s : State) :
    (s.mark p e).notices = s.notices := rfl
@[simp] theorem State.mark_port (p : Nat) (e : Epoch) (s : State) :
    (s.mark p e).port = s.port := rfl
@[simp] theorem State.mark_resetAsserted (p : Nat) (e : Epoch) (s : State) :
    (s.mark p e).resetAsserted = s.resetAsserted := rfl
@[simp] theorem State.mark_freeIx (p : Nat) (e : Epoch) (s : State) :
    (s.mark p e).freeIx = s.freeIx := rfl
@[simp] theorem State.mark_pending (p : Nat) (e : Epoch) (s : State) :
    (s.mark p e).pending = s.pending := rfl

/-! `State.markIf` -/

@[simp] theorem State.markIf_sheet (c : Bool) (p : Nat) (e : Epoch) (s : State) :
    (s.markIf c p e).sheet = s.sheet := by cases c <;> rfl
@[simp] theorem State.markIf_stu (c : Bool) (p : Nat) (e : Epoch) (s : State) :
    (s.markIf c p e).stu = s.stu := by cases c <;> rfl
@[simp] theorem State.markIf_table (c : Bool) (p : Nat) (e : Epoch) (s : State) :
    (s.markIf c p e).table = s.table := by cases c <;> rfl
@[simp] theorem State.markIf_balance (c : Bool) (p : Nat) (e : Epoch) (s : State) :
    (s.markIf c p e).balance = s.balance := by cases c <;> rfl
@[simp] theorem State.markIf_lau (c : Bool) (p : Nat) (e : Epoch) (s : State) :
    (s.markIf c p e).lau = s.lau := by cases c <;> rfl
@[simp] theorem State.markIf_intake (c : Bool) (p : Nat) (e : Epoch) (s : State) :
    (s.markIf c p e).intake = s.intake := by cases c <;> rfl
@[simp] theorem State.markIf_peers (c : Bool) (p : Nat) (e : Epoch) (s : State) :
    (s.markIf c p e).peers = s.peers := by cases c <;> rfl
@[simp] theorem State.markIf_pub (c : Bool) (p : Nat) (e : Epoch) (s : State) :
    (s.markIf c p e).pub = s.pub := by cases c <;> rfl
@[simp] theorem State.markIf_notices (c : Bool) (p : Nat) (e : Epoch) (s : State) :
    (s.markIf c p e).notices = s.notices := by cases c <;> rfl
@[simp] theorem State.markIf_port (c : Bool) (p : Nat) (e : Epoch) (s : State) :
    (s.markIf c p e).port = s.port := by cases c <;> rfl
@[simp] theorem State.markIf_resetAsserted (c : Bool) (p : Nat) (e : Epoch) (s : State) :
    (s.markIf c p e).resetAsserted = s.resetAsserted := by cases c <;> rfl
@[simp] theorem State.markIf_freeIx (c : Bool) (p : Nat) (e : Epoch) (s : State) :
    (s.markIf c p e).freeIx = s.freeIx := by cases c <;> rfl
@[simp] theorem State.markIf_pending (c : Bool) (p : Nat) (e : Epoch) (s : State) :
    (s.markIf c p e).pending = s.pending := by cases c <;> rfl

/-! `State.markEpochs` -/

@[simp] theorem State.markEpochs_sheet (p : Nat) (es : List Epoch) (s : State) :
    (s.markEpochs p es).sheet = s.sheet := rfl
@[simp] theorem State.markEpochs_stu (p : Nat) (es : List Epoch) (s : State) :
    (s.markEpochs p es).stu = s.stu := rfl
@[simp] theorem State.markEpochs_table (p : Nat) (es : List Epoch) (s : State) :
    (s.markEpochs p es).table = s.table := rfl
@[simp] theorem State.markEpochs_balance (p : Nat) (es : List Epoch) (s : State) :
    (s.markEpochs p es).balance = s.balance := rfl
@[simp] theorem State.markEpochs_lau (p : Nat) (es : List Epoch) (s : State) :
    (s.markEpochs p es).lau = s.lau := rfl
@[simp] theorem State.markEpochs_intake (p : Nat) (es : List Epoch) (s : State) :
    (s.markEpochs p es).intake = s.intake := rfl
@[simp] theorem State.markEpochs_peers (p : Nat) (es : List Epoch) (s : State) :
    (s.markEpochs p es).peers = s.peers := rfl
@[simp] theorem State.markEpochs_pub (p : Nat) (es : List Epoch) (s : State) :
    (s.markEpochs p es).pub = s.pub := rfl
@[simp] theorem State.markEpochs_notices (p : Nat) (es : List Epoch) (s : State) :
    (s.markEpochs p es).notices = s.notices := rfl
@[simp] theorem State.markEpochs_port (p : Nat) (es : List Epoch) (s : State) :
    (s.markEpochs p es).port = s.port := rfl
@[simp] theorem State.markEpochs_resetAsserted (p : Nat) (es : List Epoch) (s : State) :
    (s.markEpochs p es).resetAsserted = s.resetAsserted := rfl
@[simp] theorem State.markEpochs_freeIx (p : Nat) (es : List Epoch) (s : State) :
    (s.markEpochs p es).freeIx = s.freeIx := rfl
@[simp] theorem State.markEpochs_pending (p : Nat) (es : List Epoch) (s : State) :
    (s.markEpochs p es).pending = s.pending := rfl

/-! `State.give` -/

@[simp] theorem State.give_sheet (sub : Subject) (s : State) :
    (s.give sub).sheet = s.sheet := rfl
@[simp] theorem State.give_stu (sub : Subject) (s : State) :
    (s.give sub).stu = s.stu := rfl
@[simp] theorem State.give_table (sub : Subject) (s : State) :
    (s.give sub).table = s.table := rfl
@[simp] theorem State.give_balance (sub : Subject) (s : State) :
    (s.give sub).balance = s.balance := rfl
@[simp] theorem State.give_attest (sub : Subject) (s : State) :
    (s.give sub).attest = s.attest := rfl
@[simp] theorem State.give_lau (sub : Subject) (s : State) :
    (s.give sub).lau = s.lau := rfl
@[simp] theorem State.give_intake (sub : Subject) (s : State) :
    (s.give sub).intake = s.intake := rfl
@[simp] theorem State.give_peers (sub : Subject) (s : State) :
    (s.give sub).peers = s.peers := rfl
@[simp] theorem State.give_notices (sub : Subject) (s : State) :
    (s.give sub).notices = s.notices := rfl
@[simp] theorem State.give_port (sub : Subject) (s : State) :
    (s.give sub).port = s.port := rfl
@[simp] theorem State.give_resetAsserted (sub : Subject) (s : State) :
    (s.give sub).resetAsserted = s.resetAsserted := rfl
@[simp] theorem State.give_freeIx (sub : Subject) (s : State) :
    (s.give sub).freeIx = s.freeIx := rfl
@[simp] theorem State.give_pending (sub : Subject) (s : State) :
    (s.give sub).pending = s.pending := rfl

/-! `State.removeEntries` -/

@[simp] theorem State.removeEntries_sheet (gone : List PeerEntry) (s : State) :
    (s.removeEntries gone).sheet = s.sheet := by unfold State.removeEntries; split <;> rfl
@[simp] theorem State.removeEntries_stu (gone : List PeerEntry) (s : State) :
    (s.removeEntries gone).stu = s.stu := by unfold State.removeEntries; split <;> rfl
@[simp] theorem State.removeEntries_lau (gone : List PeerEntry) (s : State) :
    (s.removeEntries gone).lau = s.lau := by unfold State.removeEntries; split <;> rfl
@[simp] theorem State.removeEntries_intake (gone : List PeerEntry) (s : State) :
    (s.removeEntries gone).intake = s.intake := by unfold State.removeEntries; split <;> rfl
@[simp] theorem State.removeEntries_peers (gone : List PeerEntry) (s : State) :
    (s.removeEntries gone).peers = s.peers := by unfold State.removeEntries; split <;> rfl
@[simp] theorem State.removeEntries_pub (gone : List PeerEntry) (s : State) :
    (s.removeEntries gone).pub = s.pub := by unfold State.removeEntries; split <;> rfl
@[simp] theorem State.removeEntries_port (gone : List PeerEntry) (s : State) :
    (s.removeEntries gone).port = s.port := by unfold State.removeEntries; split <;> rfl
@[simp] theorem State.removeEntries_resetAsserted (gone : List PeerEntry) (s : State) :
    (s.removeEntries gone).resetAsserted = s.resetAsserted := by unfold State.removeEntries; split <;> rfl
@[simp] theorem State.removeEntries_freeIx (gone : List PeerEntry) (s : State) :
    (s.removeEntries gone).freeIx = s.freeIx := by unfold State.removeEntries; split <;> rfl
@[simp] theorem State.removeEntries_pending (gone : List PeerEntry) (s : State) :
    (s.removeEntries gone).pending = s.pending := by unfold State.removeEntries; split <;> rfl

/-! `State.removeStation` -/

@[simp] theorem State.removeStation_sheet (slot : Nat) (s : State) :
    (s.removeStation slot).sheet = s.sheet := by simp [State.removeStation]
@[simp] theorem State.removeStation_stu (slot : Nat) (s : State) :
    (s.removeStation slot).stu = s.stu := by simp [State.removeStation]
@[simp] theorem State.removeStation_lau (slot : Nat) (s : State) :
    (s.removeStation slot).lau = s.lau := by simp [State.removeStation]
@[simp] theorem State.removeStation_intake (slot : Nat) (s : State) :
    (s.removeStation slot).intake = s.intake := by simp [State.removeStation]
@[simp] theorem State.removeStation_peers (slot : Nat) (s : State) :
    (s.removeStation slot).peers = s.peers := by simp [State.removeStation]
@[simp] theorem State.removeStation_pub (slot : Nat) (s : State) :
    (s.removeStation slot).pub = s.pub := by simp [State.removeStation]
@[simp] theorem State.removeStation_port (slot : Nat) (s : State) :
    (s.removeStation slot).port = s.port := by simp [State.removeStation]
@[simp] theorem State.removeStation_resetAsserted (slot : Nat) (s : State) :
    (s.removeStation slot).resetAsserted = s.resetAsserted := by simp [State.removeStation]
@[simp] theorem State.removeStation_freeIx (slot : Nat) (s : State) :
    (s.removeStation slot).freeIx = s.freeIx := by simp [State.removeStation]
@[simp] theorem State.removeStation_pending (slot : Nat) (s : State) :
    (s.removeStation slot).pending = s.pending := by simp [State.removeStation]

/-! `State.writePeer` -/

@[simp] theorem State.writePeer_sheet (slot : Nat) (changed : Bool) (r : PeerRecord) (s : State) :
    (s.writePeer slot changed r).sheet = s.sheet := by unfold State.writePeer; dsimp only; split <;> rfl
@[simp] theorem State.writePeer_stu (slot : Nat) (changed : Bool) (r : PeerRecord) (s : State) :
    (s.writePeer slot changed r).stu = s.stu := by unfold State.writePeer; dsimp only; split <;> rfl
@[simp] theorem State.writePeer_table (slot : Nat) (changed : Bool) (r : PeerRecord) (s : State) :
    (s.writePeer slot changed r).table = s.table := by unfold State.writePeer; dsimp only; split <;> rfl
@[simp] theorem State.writePeer_attest (slot : Nat) (changed : Bool) (r : PeerRecord) (s : State) :
    (s.writePeer slot changed r).attest = s.attest := by unfold State.writePeer; dsimp only; split <;> rfl
@[simp] theorem State.writePeer_lau (slot : Nat) (changed : Bool) (r : PeerRecord) (s : State) :
    (s.writePeer slot changed r).lau = s.lau := by unfold State.writePeer; dsimp only; split <;> rfl
@[simp] theorem State.writePeer_intake (slot : Nat) (changed : Bool) (r : PeerRecord) (s : State) :
    (s.writePeer slot changed r).intake = s.intake := by unfold State.writePeer; dsimp only; split <;> rfl
@[simp] theorem State.writePeer_pub (slot : Nat) (changed : Bool) (r : PeerRecord) (s : State) :
    (s.writePeer slot changed r).pub = s.pub := by unfold State.writePeer; dsimp only; split <;> rfl
@[simp] theorem State.writePeer_notices (slot : Nat) (changed : Bool) (r : PeerRecord) (s : State) :
    (s.writePeer slot changed r).notices = s.notices := by unfold State.writePeer; dsimp only; split <;> rfl
@[simp] theorem State.writePeer_port (slot : Nat) (changed : Bool) (r : PeerRecord) (s : State) :
    (s.writePeer slot changed r).port = s.port := by unfold State.writePeer; dsimp only; split <;> rfl
@[simp] theorem State.writePeer_resetAsserted (slot : Nat) (changed : Bool) (r : PeerRecord) (s : State) :
    (s.writePeer slot changed r).resetAsserted = s.resetAsserted := by unfold State.writePeer; dsimp only; split <;> rfl
@[simp] theorem State.writePeer_freeIx (slot : Nat) (changed : Bool) (r : PeerRecord) (s : State) :
    (s.writePeer slot changed r).freeIx = s.freeIx := by unfold State.writePeer; dsimp only; split <;> rfl
@[simp] theorem State.writePeer_pending (slot : Nat) (changed : Bool) (r : PeerRecord) (s : State) :
    (s.writePeer slot changed r).pending = s.pending := by unfold State.writePeer; dsimp only; split <;> rfl

/-! `State.setPeer` -/

@[simp] theorem State.setPeer_sheet (slot : Nat) (r : PeerRecord) (s : State) :
    (s.setPeer slot r).sheet = s.sheet := by simp [State.setPeer]
@[simp] theorem State.setPeer_stu (slot : Nat) (r : PeerRecord) (s : State) :
    (s.setPeer slot r).stu = s.stu := by simp [State.setPeer]
@[simp] theorem State.setPeer_table (slot : Nat) (r : PeerRecord) (s : State) :
    (s.setPeer slot r).table = s.table := by simp [State.setPeer]
@[simp] theorem State.setPeer_attest (slot : Nat) (r : PeerRecord) (s : State) :
    (s.setPeer slot r).attest = s.attest := by simp [State.setPeer]
@[simp] theorem State.setPeer_lau (slot : Nat) (r : PeerRecord) (s : State) :
    (s.setPeer slot r).lau = s.lau := by simp [State.setPeer]
@[simp] theorem State.setPeer_intake (slot : Nat) (r : PeerRecord) (s : State) :
    (s.setPeer slot r).intake = s.intake := by simp [State.setPeer]
@[simp] theorem State.setPeer_pub (slot : Nat) (r : PeerRecord) (s : State) :
    (s.setPeer slot r).pub = s.pub := by simp [State.setPeer]
@[simp] theorem State.setPeer_notices (slot : Nat) (r : PeerRecord) (s : State) :
    (s.setPeer slot r).notices = s.notices := by simp [State.setPeer]
@[simp] theorem State.setPeer_port (slot : Nat) (r : PeerRecord) (s : State) :
    (s.setPeer slot r).port = s.port := by simp [State.setPeer]
@[simp] theorem State.setPeer_resetAsserted (slot : Nat) (r : PeerRecord) (s : State) :
    (s.setPeer slot r).resetAsserted = s.resetAsserted := by simp [State.setPeer]
@[simp] theorem State.setPeer_freeIx (slot : Nat) (r : PeerRecord) (s : State) :
    (s.setPeer slot r).freeIx = s.freeIx := by simp [State.setPeer]
@[simp] theorem State.setPeer_pending (slot : Nat) (r : PeerRecord) (s : State) :
    (s.setPeer slot r).pending = s.pending := by simp [State.setPeer]

/-! `State.updatePeer` -/

@[simp] theorem State.updatePeer_sheet (slot : Nat) (f : PeerRecord → PeerRecord) (s : State) :
    (s.updatePeer slot f).sheet = s.sheet := by simp [State.updatePeer]
@[simp] theorem State.updatePeer_stu (slot : Nat) (f : PeerRecord → PeerRecord) (s : State) :
    (s.updatePeer slot f).stu = s.stu := by simp [State.updatePeer]
@[simp] theorem State.updatePeer_table (slot : Nat) (f : PeerRecord → PeerRecord) (s : State) :
    (s.updatePeer slot f).table = s.table := by simp [State.updatePeer]
@[simp] theorem State.updatePeer_attest (slot : Nat) (f : PeerRecord → PeerRecord) (s : State) :
    (s.updatePeer slot f).attest = s.attest := by simp [State.updatePeer]
@[simp] theorem State.updatePeer_lau (slot : Nat) (f : PeerRecord → PeerRecord) (s : State) :
    (s.updatePeer slot f).lau = s.lau := by simp [State.updatePeer]
@[simp] theorem State.updatePeer_intake (slot : Nat) (f : PeerRecord → PeerRecord) (s : State) :
    (s.updatePeer slot f).intake = s.intake := by simp [State.updatePeer]
@[simp] theorem State.updatePeer_pub (slot : Nat) (f : PeerRecord → PeerRecord) (s : State) :
    (s.updatePeer slot f).pub = s.pub := by simp [State.updatePeer]
@[simp] theorem State.updatePeer_notices (slot : Nat) (f : PeerRecord → PeerRecord) (s : State) :
    (s.updatePeer slot f).notices = s.notices := by simp [State.updatePeer]
@[simp] theorem State.updatePeer_port (slot : Nat) (f : PeerRecord → PeerRecord) (s : State) :
    (s.updatePeer slot f).port = s.port := by simp [State.updatePeer]
@[simp] theorem State.updatePeer_resetAsserted (slot : Nat) (f : PeerRecord → PeerRecord) (s : State) :
    (s.updatePeer slot f).resetAsserted = s.resetAsserted := by simp [State.updatePeer]
@[simp] theorem State.updatePeer_freeIx (slot : Nat) (f : PeerRecord → PeerRecord) (s : State) :
    (s.updatePeer slot f).freeIx = s.freeIx := by simp [State.updatePeer]
@[simp] theorem State.updatePeer_pending (slot : Nat) (f : PeerRecord → PeerRecord) (s : State) :
    (s.updatePeer slot f).pending = s.pending := by simp [State.updatePeer]

/-! `State.dropStation` -/

@[simp] theorem State.dropStation_sheet (slot : Nat) (s : State) :
    (s.dropStation slot).sheet = s.sheet := by simp [State.dropStation]
@[simp] theorem State.dropStation_stu (slot : Nat) (s : State) :
    (s.dropStation slot).stu = s.stu := by simp [State.dropStation]
@[simp] theorem State.dropStation_lau (slot : Nat) (s : State) :
    (s.dropStation slot).lau = s.lau := by simp [State.dropStation]
@[simp] theorem State.dropStation_intake (slot : Nat) (s : State) :
    (s.dropStation slot).intake = s.intake := by simp [State.dropStation]
@[simp] theorem State.dropStation_peers (slot : Nat) (s : State) :
    (s.dropStation slot).peers = s.peers := by simp [State.dropStation]
@[simp] theorem State.dropStation_pub (slot : Nat) (s : State) :
    (s.dropStation slot).pub = s.pub := by simp [State.dropStation]
@[simp] theorem State.dropStation_port (slot : Nat) (s : State) :
    (s.dropStation slot).port = s.port := by simp [State.dropStation]
@[simp] theorem State.dropStation_resetAsserted (slot : Nat) (s : State) :
    (s.dropStation slot).resetAsserted = s.resetAsserted := by simp [State.dropStation]
@[simp] theorem State.dropStation_freeIx (slot : Nat) (s : State) :
    (s.dropStation slot).freeIx = s.freeIx := by simp [State.dropStation]
@[simp] theorem State.dropStation_pending (slot : Nat) (s : State) :
    (s.dropStation slot).pending = s.pending := by simp [State.dropStation]

/-! `State.count` -/

@[simp] theorem State.count_sheet (f : IntakeCounters → IntakeCounters) (s : State) :
    (s.count f).sheet = s.sheet := rfl
@[simp] theorem State.count_stu (f : IntakeCounters → IntakeCounters) (s : State) :
    (s.count f).stu = s.stu := rfl
@[simp] theorem State.count_table (f : IntakeCounters → IntakeCounters) (s : State) :
    (s.count f).table = s.table := rfl
@[simp] theorem State.count_balance (f : IntakeCounters → IntakeCounters) (s : State) :
    (s.count f).balance = s.balance := rfl
@[simp] theorem State.count_attest (f : IntakeCounters → IntakeCounters) (s : State) :
    (s.count f).attest = s.attest := rfl
@[simp] theorem State.count_lau (f : IntakeCounters → IntakeCounters) (s : State) :
    (s.count f).lau = s.lau := rfl
@[simp] theorem State.count_peers (f : IntakeCounters → IntakeCounters) (s : State) :
    (s.count f).peers = s.peers := rfl
@[simp] theorem State.count_pub (f : IntakeCounters → IntakeCounters) (s : State) :
    (s.count f).pub = s.pub := rfl
@[simp] theorem State.count_notices (f : IntakeCounters → IntakeCounters) (s : State) :
    (s.count f).notices = s.notices := rfl
@[simp] theorem State.count_port (f : IntakeCounters → IntakeCounters) (s : State) :
    (s.count f).port = s.port := rfl
@[simp] theorem State.count_resetAsserted (f : IntakeCounters → IntakeCounters) (s : State) :
    (s.count f).resetAsserted = s.resetAsserted := rfl
@[simp] theorem State.count_freeIx (f : IntakeCounters → IntakeCounters) (s : State) :
    (s.count f).freeIx = s.freeIx := rfl
@[simp] theorem State.count_pending (f : IntakeCounters → IntakeCounters) (s : State) :
    (s.count f).pending = s.pending := rfl

/-! `State.countMalformed` -/

@[simp] theorem State.countMalformed_sheet (s : State) :
    (s.countMalformed).sheet = s.sheet := rfl
@[simp] theorem State.countMalformed_stu (s : State) :
    (s.countMalformed).stu = s.stu := rfl
@[simp] theorem State.countMalformed_table (s : State) :
    (s.countMalformed).table = s.table := rfl
@[simp] theorem State.countMalformed_balance (s : State) :
    (s.countMalformed).balance = s.balance := rfl
@[simp] theorem State.countMalformed_attest (s : State) :
    (s.countMalformed).attest = s.attest := rfl
@[simp] theorem State.countMalformed_lau (s : State) :
    (s.countMalformed).lau = s.lau := rfl
@[simp] theorem State.countMalformed_peers (s : State) :
    (s.countMalformed).peers = s.peers := rfl
@[simp] theorem State.countMalformed_pub (s : State) :
    (s.countMalformed).pub = s.pub := rfl
@[simp] theorem State.countMalformed_notices (s : State) :
    (s.countMalformed).notices = s.notices := rfl
@[simp] theorem State.countMalformed_port (s : State) :
    (s.countMalformed).port = s.port := rfl
@[simp] theorem State.countMalformed_resetAsserted (s : State) :
    (s.countMalformed).resetAsserted = s.resetAsserted := rfl
@[simp] theorem State.countMalformed_freeIx (s : State) :
    (s.countMalformed).freeIx = s.freeIx := rfl
@[simp] theorem State.countMalformed_pending (s : State) :
    (s.countMalformed).pending = s.pending := rfl

/-! `State.answer` -/

@[simp] theorem State.answer_sheet (code : ResultCode) (data : List Byte) (s : State) :
    (s.answer code data).sheet = s.sheet := rfl
@[simp] theorem State.answer_stu (code : ResultCode) (data : List Byte) (s : State) :
    (s.answer code data).stu = s.stu := rfl
@[simp] theorem State.answer_table (code : ResultCode) (data : List Byte) (s : State) :
    (s.answer code data).table = s.table := rfl
@[simp] theorem State.answer_balance (code : ResultCode) (data : List Byte) (s : State) :
    (s.answer code data).balance = s.balance := rfl
@[simp] theorem State.answer_attest (code : ResultCode) (data : List Byte) (s : State) :
    (s.answer code data).attest = s.attest := rfl
@[simp] theorem State.answer_lau (code : ResultCode) (data : List Byte) (s : State) :
    (s.answer code data).lau = s.lau := rfl
@[simp] theorem State.answer_intake (code : ResultCode) (data : List Byte) (s : State) :
    (s.answer code data).intake = s.intake := rfl
@[simp] theorem State.answer_peers (code : ResultCode) (data : List Byte) (s : State) :
    (s.answer code data).peers = s.peers := rfl
@[simp] theorem State.answer_pub (code : ResultCode) (data : List Byte) (s : State) :
    (s.answer code data).pub = s.pub := rfl
@[simp] theorem State.answer_notices (code : ResultCode) (data : List Byte) (s : State) :
    (s.answer code data).notices = s.notices := rfl
@[simp] theorem State.answer_resetAsserted (code : ResultCode) (data : List Byte) (s : State) :
    (s.answer code data).resetAsserted = s.resetAsserted := rfl
@[simp] theorem State.answer_freeIx (code : ResultCode) (data : List Byte) (s : State) :
    (s.answer code data).freeIx = s.freeIx := rfl
@[simp] theorem State.answer_pending (code : ResultCode) (data : List Byte) (s : State) :
    (s.answer code data).pending = s.pending := rfl

/-! `State.answerCode` -/

@[simp] theorem State.answerCode_sheet (code : ResultCode) (s : State) :
    (s.answerCode code).sheet = s.sheet := rfl
@[simp] theorem State.answerCode_stu (code : ResultCode) (s : State) :
    (s.answerCode code).stu = s.stu := rfl
@[simp] theorem State.answerCode_table (code : ResultCode) (s : State) :
    (s.answerCode code).table = s.table := rfl
@[simp] theorem State.answerCode_balance (code : ResultCode) (s : State) :
    (s.answerCode code).balance = s.balance := rfl
@[simp] theorem State.answerCode_attest (code : ResultCode) (s : State) :
    (s.answerCode code).attest = s.attest := rfl
@[simp] theorem State.answerCode_lau (code : ResultCode) (s : State) :
    (s.answerCode code).lau = s.lau := rfl
@[simp] theorem State.answerCode_intake (code : ResultCode) (s : State) :
    (s.answerCode code).intake = s.intake := rfl
@[simp] theorem State.answerCode_peers (code : ResultCode) (s : State) :
    (s.answerCode code).peers = s.peers := rfl
@[simp] theorem State.answerCode_pub (code : ResultCode) (s : State) :
    (s.answerCode code).pub = s.pub := rfl
@[simp] theorem State.answerCode_notices (code : ResultCode) (s : State) :
    (s.answerCode code).notices = s.notices := rfl
@[simp] theorem State.answerCode_resetAsserted (code : ResultCode) (s : State) :
    (s.answerCode code).resetAsserted = s.resetAsserted := rfl
@[simp] theorem State.answerCode_freeIx (code : ResultCode) (s : State) :
    (s.answerCode code).freeIx = s.freeIx := rfl
@[simp] theorem State.answerCode_pending (code : ResultCode) (s : State) :
    (s.answerCode code).pending = s.pending := rfl

/-! `State.accept` -/

@[simp] theorem State.accept_sheet (op : LongOp) (s : State) :
    (s.accept op).sheet = s.sheet := rfl
@[simp] theorem State.accept_stu (op : LongOp) (s : State) :
    (s.accept op).stu = s.stu := rfl
@[simp] theorem State.accept_table (op : LongOp) (s : State) :
    (s.accept op).table = s.table := rfl
@[simp] theorem State.accept_balance (op : LongOp) (s : State) :
    (s.accept op).balance = s.balance := rfl
@[simp] theorem State.accept_attest (op : LongOp) (s : State) :
    (s.accept op).attest = s.attest := rfl
@[simp] theorem State.accept_lau (op : LongOp) (s : State) :
    (s.accept op).lau = s.lau := rfl
@[simp] theorem State.accept_intake (op : LongOp) (s : State) :
    (s.accept op).intake = s.intake := rfl
@[simp] theorem State.accept_peers (op : LongOp) (s : State) :
    (s.accept op).peers = s.peers := rfl
@[simp] theorem State.accept_pub (op : LongOp) (s : State) :
    (s.accept op).pub = s.pub := rfl
@[simp] theorem State.accept_notices (op : LongOp) (s : State) :
    (s.accept op).notices = s.notices := rfl
@[simp] theorem State.accept_resetAsserted (op : LongOp) (s : State) :
    (s.accept op).resetAsserted = s.resetAsserted := rfl
@[simp] theorem State.accept_freeIx (op : LongOp) (s : State) :
    (s.accept op).freeIx = s.freeIx := rfl
@[simp] theorem State.accept_pending (op : LongOp) (s : State) :
    (s.accept op).pending = s.pending := rfl

/-! `State.complete` -/

@[simp] theorem State.complete_sheet (code : ResultCode) (s : State) :
    (s.complete code).sheet = s.sheet := rfl
@[simp] theorem State.complete_stu (code : ResultCode) (s : State) :
    (s.complete code).stu = s.stu := rfl
@[simp] theorem State.complete_table (code : ResultCode) (s : State) :
    (s.complete code).table = s.table := rfl
@[simp] theorem State.complete_balance (code : ResultCode) (s : State) :
    (s.complete code).balance = s.balance := rfl
@[simp] theorem State.complete_attest (code : ResultCode) (s : State) :
    (s.complete code).attest = s.attest := rfl
@[simp] theorem State.complete_lau (code : ResultCode) (s : State) :
    (s.complete code).lau = s.lau := rfl
@[simp] theorem State.complete_intake (code : ResultCode) (s : State) :
    (s.complete code).intake = s.intake := rfl
@[simp] theorem State.complete_peers (code : ResultCode) (s : State) :
    (s.complete code).peers = s.peers := rfl
@[simp] theorem State.complete_pub (code : ResultCode) (s : State) :
    (s.complete code).pub = s.pub := rfl
@[simp] theorem State.complete_notices (code : ResultCode) (s : State) :
    (s.complete code).notices = s.notices := rfl
@[simp] theorem State.complete_resetAsserted (code : ResultCode) (s : State) :
    (s.complete code).resetAsserted = s.resetAsserted := rfl
@[simp] theorem State.complete_freeIx (code : ResultCode) (s : State) :
    (s.complete code).freeIx = s.freeIx := rfl
@[simp] theorem State.complete_pending (code : ResultCode) (s : State) :
    (s.complete code).pending = s.pending := rfl

/-! `State.newSelection` -/

@[simp] theorem State.newSelection_sheet (s : State) :
    (s.newSelection).sheet = s.sheet := rfl
@[simp] theorem State.newSelection_stu (s : State) :
    (s.newSelection).stu = s.stu := rfl
@[simp] theorem State.newSelection_table (s : State) :
    (s.newSelection).table = s.table := rfl
@[simp] theorem State.newSelection_balance (s : State) :
    (s.newSelection).balance = s.balance := rfl
@[simp] theorem State.newSelection_attest (s : State) :
    (s.newSelection).attest = s.attest := rfl
@[simp] theorem State.newSelection_lau (s : State) :
    (s.newSelection).lau = s.lau := rfl
@[simp] theorem State.newSelection_intake (s : State) :
    (s.newSelection).intake = s.intake := rfl
@[simp] theorem State.newSelection_peers (s : State) :
    (s.newSelection).peers = s.peers := rfl
@[simp] theorem State.newSelection_pub (s : State) :
    (s.newSelection).pub = s.pub := rfl
@[simp] theorem State.newSelection_notices (s : State) :
    (s.newSelection).notices = s.notices := rfl
@[simp] theorem State.newSelection_resetAsserted (s : State) :
    (s.newSelection).resetAsserted = s.resetAsserted := rfl
@[simp] theorem State.newSelection_freeIx (s : State) :
    (s.newSelection).freeIx = s.freeIx := rfl
@[simp] theorem State.newSelection_pending (s : State) :
    (s.newSelection).pending = s.pending := rfl

/-! `State.handResults` -/

@[simp] theorem State.handResults_sheet (r : Requester) (results : List StuResult) (s : State) :
    (s.handResults r results).sheet = s.sheet := by unfold State.handResults; split <;> (try split) <;> rfl
@[simp] theorem State.handResults_stu (r : Requester) (results : List StuResult) (s : State) :
    (s.handResults r results).stu = s.stu := by unfold State.handResults; split <;> (try split) <;> rfl
@[simp] theorem State.handResults_balance (r : Requester) (results : List StuResult) (s : State) :
    (s.handResults r results).balance = s.balance := by unfold State.handResults; split <;> (try split) <;> rfl
@[simp] theorem State.handResults_attest (r : Requester) (results : List StuResult) (s : State) :
    (s.handResults r results).attest = s.attest := by unfold State.handResults; split <;> (try split) <;> rfl
@[simp] theorem State.handResults_lau (r : Requester) (results : List StuResult) (s : State) :
    (s.handResults r results).lau = s.lau := by unfold State.handResults; split <;> (try split) <;> rfl
@[simp] theorem State.handResults_peers (r : Requester) (results : List StuResult) (s : State) :
    (s.handResults r results).peers = s.peers := by unfold State.handResults; split <;> (try split) <;> rfl
@[simp] theorem State.handResults_pub (r : Requester) (results : List StuResult) (s : State) :
    (s.handResults r results).pub = s.pub := by unfold State.handResults; split <;> (try split) <;> rfl
@[simp] theorem State.handResults_notices (r : Requester) (results : List StuResult) (s : State) :
    (s.handResults r results).notices = s.notices := by unfold State.handResults; split <;> (try split) <;> rfl
@[simp] theorem State.handResults_port (r : Requester) (results : List StuResult) (s : State) :
    (s.handResults r results).port = s.port := by unfold State.handResults; split <;> (try split) <;> rfl
@[simp] theorem State.handResults_resetAsserted (r : Requester) (results : List StuResult) (s : State) :
    (s.handResults r results).resetAsserted = s.resetAsserted := by unfold State.handResults; split <;> (try split) <;> rfl
@[simp] theorem State.handResults_freeIx (r : Requester) (results : List StuResult) (s : State) :
    (s.handResults r results).freeIx = s.freeIx := by unfold State.handResults; split <;> (try split) <;> rfl
@[simp] theorem State.handResults_pending (r : Requester) (results : List StuResult) (s : State) :
    (s.handResults r results).pending = s.pending := by unfold State.handResults; split <;> (try split) <;> rfl

/-! The fields the operations change -/

@[simp] theorem State.raise_notices (k : NoticeKind) (j : Nat) (s : State) :
    (s.raise k j).notices = s.notices.raise k j := rfl
@[simp] theorem State.raiseIf_notices (c : Bool) (k : NoticeKind) (j : Nat) (s : State) :
    (s.raiseIf c k j).notices = if c then s.notices.raise k j else s.notices := by cases c <;> rfl
@[simp] theorem State.raiseWatch_notices (slot point : Nat) (s : State) :
    (s.raiseWatch slot point).notices = s.notices.raiseWatch { slot := slot, point := point } := rfl
@[simp] theorem State.requestAll_balance (ps : List Nat) (s : State) :
    (s.requestAll ps).balance = ps.foldl (BalanceEngine.request s.reading) s.balance := rfl
@[simp] theorem State.request_balance (p : Nat) (s : State) :
    (s.request p).balance = s.balance.request s.reading p := rfl
@[simp] theorem State.mark_attest (p : Nat) (e : Epoch) (s : State) :
    (s.mark p e).attest = markAttest p e s.attest := rfl
@[simp] theorem State.markIf_attest (c : Bool) (p : Nat) (e : Epoch) (s : State) :
    (s.markIf c p e).attest = if c then markAttest p e s.attest else s.attest := by cases c <;> rfl
@[simp] theorem State.give_pub (sub : Subject) (s : State) : (s.give sub).pub = s.pub.give sub := rfl
@[simp] theorem State.count_queue (f : IntakeCounters → IntakeCounters) (s : State) :
    (s.count f).intake.queue = s.intake.queue := rfl
@[simp] theorem State.count_merging (f : IntakeCounters → IntakeCounters) (s : State) :
    (s.count f).intake.merging = s.intake.merging := rfl
@[simp] theorem State.count_counters (f : IntakeCounters → IntakeCounters) (s : State) :
    (s.count f).intake.counters = f s.intake.counters := rfl
@[simp] theorem State.writePeer_peers (slot : Nat) (changed : Bool) (r : PeerRecord) (s : State) :
    (s.writePeer slot changed r).peers = s.peers.set slot r := by unfold State.writePeer; dsimp only; split <;> rfl
@[simp] theorem State.setPeer_peers (slot : Nat) (r : PeerRecord) (s : State) :
    (s.setPeer slot r).peers = s.peers.set slot r := by simp [State.setPeer]
@[simp] theorem State.updatePeer_peers (slot : Nat) (f : PeerRecord → PeerRecord) (s : State) :
    (s.updatePeer slot f).peers = s.peers.set slot (f (s.peer slot)) := by simp [State.updatePeer]
@[simp] theorem State.answer_port (code : ResultCode) (data : List Byte) (s : State) :
    (s.answer code data).port = { s.port with reply := BitVec.ofNat 8 code.code :: data } := rfl
@[simp] theorem State.answerCode_port (code : ResultCode) (s : State) :
    (s.answerCode code).port = { s.port with reply := [BitVec.ofNat 8 code.code] } := rfl
@[simp] theorem State.accept_port (op : LongOp) (s : State) :
    (s.accept op).port = { s.port with busy := some op, last := .busy, reply := [1] } := rfl
@[simp] theorem State.complete_port (code : ResultCode) (s : State) :
    (s.complete code).port = { s.port with busy := none, last := code } := rfl
@[simp] theorem State.newSelection_port (s : State) : s.newSelection.port = { s.port with walk := none } := rfl

/-! What is read through the sheet alone -/

theorem State.running_congr {s t : State} (h : s.sheet = t.sheet) : s.running = t.running := by
  unfold State.running; rw [h]

@[simp] theorem State.raise_ownSlot (k : NoticeKind) (j : Nat) (s : State) : (s.raise k j).ownSlot = s.ownSlot := by
  simp [State.ownSlot, State.header?]
@[simp] theorem State.raise_running (k : NoticeKind) (j : Nat) (s : State) : (s.raise k j).running = s.running :=
  State.running_congr (by simp)
@[simp] theorem State.raiseIf_ownSlot (c : Bool) (k : NoticeKind) (j : Nat) (s : State) : (s.raiseIf c k j).ownSlot = s.ownSlot := by
  simp [State.ownSlot, State.header?]
@[simp] theorem State.raiseIf_running (c : Bool) (k : NoticeKind) (j : Nat) (s : State) : (s.raiseIf c k j).running = s.running :=
  State.running_congr (by simp)
@[simp] theorem State.raiseWatch_ownSlot (slot point : Nat) (s : State) : (s.raiseWatch slot point).ownSlot = s.ownSlot := by
  simp [State.ownSlot, State.header?]
@[simp] theorem State.raiseWatch_running (slot point : Nat) (s : State) : (s.raiseWatch slot point).running = s.running :=
  State.running_congr (by simp)
@[simp] theorem State.requestAll_ownSlot (ps : List Nat) (s : State) : (s.requestAll ps).ownSlot = s.ownSlot := by
  simp [State.ownSlot, State.header?]
@[simp] theorem State.requestAll_running (ps : List Nat) (s : State) : (s.requestAll ps).running = s.running :=
  State.running_congr (by simp)
@[simp] theorem State.request_ownSlot (p : Nat) (s : State) : (s.request p).ownSlot = s.ownSlot := by
  simp [State.ownSlot, State.header?]
@[simp] theorem State.request_running (p : Nat) (s : State) : (s.request p).running = s.running :=
  State.running_congr (by simp)
@[simp] theorem State.mark_ownSlot (p : Nat) (e : Epoch) (s : State) : (s.mark p e).ownSlot = s.ownSlot := by
  simp [State.ownSlot, State.header?]
@[simp] theorem State.mark_running (p : Nat) (e : Epoch) (s : State) : (s.mark p e).running = s.running :=
  State.running_congr (by simp)
@[simp] theorem State.markIf_ownSlot (c : Bool) (p : Nat) (e : Epoch) (s : State) : (s.markIf c p e).ownSlot = s.ownSlot := by
  simp [State.ownSlot, State.header?]
@[simp] theorem State.markIf_running (c : Bool) (p : Nat) (e : Epoch) (s : State) : (s.markIf c p e).running = s.running :=
  State.running_congr (by simp)
@[simp] theorem State.markEpochs_ownSlot (p : Nat) (es : List Epoch) (s : State) : (s.markEpochs p es).ownSlot = s.ownSlot := by
  simp [State.ownSlot, State.header?]
@[simp] theorem State.markEpochs_running (p : Nat) (es : List Epoch) (s : State) : (s.markEpochs p es).running = s.running :=
  State.running_congr (by simp)
@[simp] theorem State.give_ownSlot (sub : Subject) (s : State) : (s.give sub).ownSlot = s.ownSlot := by
  simp [State.ownSlot, State.header?]
@[simp] theorem State.give_running (sub : Subject) (s : State) : (s.give sub).running = s.running :=
  State.running_congr (by simp)
@[simp] theorem State.removeEntries_ownSlot (gone : List PeerEntry) (s : State) : (s.removeEntries gone).ownSlot = s.ownSlot := by
  simp [State.ownSlot, State.header?]
@[simp] theorem State.removeEntries_running (gone : List PeerEntry) (s : State) : (s.removeEntries gone).running = s.running :=
  State.running_congr (by simp)
@[simp] theorem State.removeStation_ownSlot (slot : Nat) (s : State) : (s.removeStation slot).ownSlot = s.ownSlot := by
  simp [State.ownSlot, State.header?]
@[simp] theorem State.removeStation_running (slot : Nat) (s : State) : (s.removeStation slot).running = s.running :=
  State.running_congr (by simp)
@[simp] theorem State.writePeer_ownSlot (slot : Nat) (changed : Bool) (r : PeerRecord) (s : State) :
    (s.writePeer slot changed r).ownSlot = s.ownSlot := by
  simp [State.ownSlot, State.header?]
@[simp] theorem State.writePeer_running (slot : Nat) (changed : Bool) (r : PeerRecord) (s : State) :
    (s.writePeer slot changed r).running = s.running :=
  State.running_congr (by simp)
@[simp] theorem State.setPeer_ownSlot (slot : Nat) (r : PeerRecord) (s : State) : (s.setPeer slot r).ownSlot = s.ownSlot := by
  simp [State.ownSlot, State.header?]
@[simp] theorem State.setPeer_running (slot : Nat) (r : PeerRecord) (s : State) : (s.setPeer slot r).running = s.running :=
  State.running_congr (by simp)
@[simp] theorem State.updatePeer_ownSlot (slot : Nat) (f : PeerRecord → PeerRecord) (s : State) : (s.updatePeer slot f).ownSlot = s.ownSlot := by
  simp [State.ownSlot, State.header?]
@[simp] theorem State.updatePeer_running (slot : Nat) (f : PeerRecord → PeerRecord) (s : State) : (s.updatePeer slot f).running = s.running :=
  State.running_congr (by simp)
@[simp] theorem State.dropStation_ownSlot (slot : Nat) (s : State) : (s.dropStation slot).ownSlot = s.ownSlot := by
  simp [State.ownSlot, State.header?]
@[simp] theorem State.dropStation_running (slot : Nat) (s : State) : (s.dropStation slot).running = s.running :=
  State.running_congr (by simp)
@[simp] theorem State.count_ownSlot (f : IntakeCounters → IntakeCounters) (s : State) : (s.count f).ownSlot = s.ownSlot := by
  simp [State.ownSlot, State.header?]
@[simp] theorem State.count_running (f : IntakeCounters → IntakeCounters) (s : State) : (s.count f).running = s.running :=
  State.running_congr (by simp)
@[simp] theorem State.countMalformed_ownSlot (s : State) : (s.countMalformed).ownSlot = s.ownSlot := by
  simp [State.ownSlot, State.header?]
@[simp] theorem State.countMalformed_running (s : State) : (s.countMalformed).running = s.running :=
  State.running_congr (by simp)
@[simp] theorem State.answer_ownSlot (code : ResultCode) (data : List Byte) (s : State) : (s.answer code data).ownSlot = s.ownSlot := by
  simp [State.ownSlot, State.header?]
@[simp] theorem State.answer_running (code : ResultCode) (data : List Byte) (s : State) : (s.answer code data).running = s.running :=
  State.running_congr (by simp)
@[simp] theorem State.answerCode_ownSlot (code : ResultCode) (s : State) : (s.answerCode code).ownSlot = s.ownSlot := by
  simp [State.ownSlot, State.header?]
@[simp] theorem State.answerCode_running (code : ResultCode) (s : State) : (s.answerCode code).running = s.running :=
  State.running_congr (by simp)
@[simp] theorem State.accept_ownSlot (op : LongOp) (s : State) : (s.accept op).ownSlot = s.ownSlot := by
  simp [State.ownSlot, State.header?]
@[simp] theorem State.accept_running (op : LongOp) (s : State) : (s.accept op).running = s.running :=
  State.running_congr (by simp)
@[simp] theorem State.complete_ownSlot (code : ResultCode) (s : State) : (s.complete code).ownSlot = s.ownSlot := by
  simp [State.ownSlot, State.header?]
@[simp] theorem State.complete_running (code : ResultCode) (s : State) : (s.complete code).running = s.running :=
  State.running_congr (by simp)
@[simp] theorem State.newSelection_ownSlot (s : State) : (s.newSelection).ownSlot = s.ownSlot := by
  simp [State.ownSlot, State.header?]
@[simp] theorem State.newSelection_running (s : State) : (s.newSelection).running = s.running :=
  State.running_congr (by simp)
@[simp] theorem State.handResults_ownSlot (r : Requester) (results : List StuResult) (s : State) : (s.handResults r results).ownSlot = s.ownSlot := by
  simp [State.ownSlot, State.header?]
@[simp] theorem State.handResults_running (r : Requester) (results : List StuResult) (s : State) : (s.handResults r results).running = s.running :=
  State.running_congr (by simp)

end Sys2Proof.Machine
end

