-- ==== Sys2Proof/Laws/Ops.lean ====
section
/-! SUPPORT. For each shared operation, once, everything it can do: later proofs cite these and do not unfold the operation. -/

namespace Sys2Proof.Machine

/-! ### Steps and outcomes -/

theorem step_idle {s : State} (h : s.pending = []) : step s = .next s.tick := by
  simp [step, h]

theorem step_front {s : State} {c : Instr} {rest : List Instr} (h : s.pending = c :: rest) :
    step s = exec c { s with pending := rest } := by
  simp [step, h]

/-- The next state of a command: every command has one. -/
def State.after (s : State) (c : Instr) : State :=
  match exec c s with
  | .next t => t
  | .fault _ | .refused _ => s

/-- No command faults or is refused. -/
theorem exec_next (c : Instr) (s : State) : exec c s = .next (s.after c) := by
  cases c <;> rfl

/-- What a step can do: the front command's effect, or one bit time. -/
theorem step_cases {s t : State} (h : step s = .next t) :
    (s.pending = [] ∧ t = s.tick) ∨ ∃ c rest, s.pending = c :: rest ∧ exec c { s with pending := rest } = .next t := by
  unfold step at h
  split at h
  · exact .inl ⟨‹_›, by simpa using h.symm⟩
  · exact .inr ⟨_, _, ‹_›, h⟩

/-! ### Requests (R157, R160, R161) -/

theorem State.serveRequest_taken {s : State} (h : s.takes) (body : State → State) :
    s.serveRequest body = body s.newSelection := by
  simp [State.serveRequest, h.1, h.2]

theorem State.serveRequest_ignored {s : State} (h : s.resetAsserted = true ∨ s.port.ignoring = true)
    (body : State → State) : s.serveRequest body = s := by
  unfold State.serveRequest
  rcases h with h | h <;> simp [h]

theorem State.takeRequest_idle {s : State} (h : s.portIdle) (body : State → State) :
    s.takeRequest body = body s.newSelection := by
  simp [State.takeRequest, State.serveRequest_taken h.1, h.2, State.newSelection]

theorem State.takeRequest_busy {s : State} (h : s.takes) (hb : s.port.busy.isSome = true) (body : State → State) :
    s.takeRequest body = s.answered .busy [] := by
  simp [State.takeRequest, State.serveRequest_taken h, hb, State.newSelection, State.answered, State.answerCode,
    State.answer]

theorem State.takeRequest_ignored {s : State} (h : s.resetAsserted = true ∨ s.port.ignoring = true)
    (body : State → State) : s.takeRequest body = s :=
  State.serveRequest_ignored h _

theorem State.newSelection_answer (s : State) (code : ResultCode) (data : List Byte) :
    s.newSelection.answer code data = s.answered code data := rfl

theorem State.newSelection_answerCode (s : State) (code : ResultCode) :
    s.newSelection.answerCode code = s.answered code [] := rfl

theorem State.newSelection_accept (s : State) (op : LongOp) : s.newSelection.accept op = s.accepted op := rfl

theorem firstRefusal_cons (b : Bool) (code : ResultCode) (rest : List (Bool × ResultCode)) :
    firstRefusal ((b, code) :: rest) = if b then some code else firstRefusal rest := rfl

theorem State.checked_nil (s t : State) : s.checked [] t = t := rfl

theorem State.checked_cons (s t : State) (b : Bool) (code : ResultCode) (rest : List (Bool × ResultCode)) :
    s.checked ((b, code) :: rest) t = if b then s.answered code [] else s.checked rest t := by
  cases b <;> rfl

theorem State.running_iff (s : State) : s.running = true ↔ s.sheet.node = .active ∨ s.sheet.node = .final := by
  simp [State.running]

theorem State.not_running_iff (s : State) : s.running = false ↔ s.sheet.node ≠ .active ∧ s.sheet.node ≠ .final := by
  simp [State.running]

theorem State.parcelDefined_iff (s : State) (p : Nat) :
    s.parcelDefined p = true ↔ ∃ sh, s.sheet.sheet = some sh ∧ ∃ d ∈ sh.parcels, d.number = p := by
  cases h : s.sheet.sheet <;> simp [State.parcelDefined, State.parcelDef?, h]

/-! ### Notices (R144, R154) -/

theorem isNotice_iff {k : NoticeKind} {j : Nat} {n : Notice} : isNotice k j n = true ↔ n.kind = k ∧ n.subject = j := by
  simp [isNotice]

/-- A new entry joins; no other comes or goes. -/
theorem insertNotice_perm (k : NoticeKind) (j : Nat) (ns : List Notice) :
    (insertNotice k j ns).Perm ({ kind := k, subject := j, count := 0 } :: ns) := by
  induction ns with
  | nil => exact .refl _
  | cons n ns ih =>
    unfold insertNotice
    split
    · exact .refl _
    · exact (ih.cons n).trans (.swap ..)

theorem raisePending_of_mem {k : NoticeKind} {j : Nat} {ns : List Notice} (h : ns.any (isNotice k j) = true) :
    raisePending k j ns = ns.map (fun n => if isNotice k j n then { n with count := min 255 (n.count + 1) } else n) := by
  simp only [raisePending, h, if_true]

theorem raisePending_of_not_mem {k : NoticeKind} {j : Nat} {ns : List Notice} (h : ns.any (isNotice k j) = false) :
    raisePending k j ns = insertNotice k j ns := by
  simp [raisePending, h]

/-- After a raise an entry of its kind and subject is pending. -/
theorem exists_mem_raisePending (k : NoticeKind) (j : Nat) (ns : List Notice) :
    ∃ n ∈ raisePending k j ns, n.kind = k ∧ n.subject = j := by
  cases h : ns.any (isNotice k j) with
  | true =>
    obtain ⟨n, hn, hk⟩ := List.any_eq_true.1 h
    rw [raisePending_of_mem h]
    refine ⟨_, List.mem_map.2 ⟨n, hn, rfl⟩, ?_⟩
    rw [if_pos hk]
    exact isNotice_iff.1 hk
  | false =>
    rw [raisePending_of_not_mem h]
    exact ⟨_, (insertNotice_perm k j ns).mem_iff.2 (List.mem_cons_self ..), rfl, rfl⟩

/-- A raise keeps every pair that was pending. -/
theorem mem_pair_raisePending {k : NoticeKind} {j : Nat} {ns : List Notice} {n : Notice} (h : n ∈ ns) :
    ∃ m ∈ raisePending k j ns, m.kind = n.kind ∧ m.subject = n.subject := by
  cases ha : ns.any (isNotice k j) with
  | true =>
    rw [raisePending_of_mem ha]
    refine ⟨_, List.mem_map.2 ⟨n, h, rfl⟩, ?_⟩
    split <;> exact ⟨rfl, rfl⟩
  | false =>
    rw [raisePending_of_not_mem ha]
    exact ⟨n, (insertNotice_perm k j ns).mem_iff.2 (List.mem_cons_of_mem _ h), rfl, rfl⟩

/-- WATCH for a watched key, nothing for another. -/
theorem NoticeUnit.raiseWatch_cases (key : WatchKey) (n : NoticeUnit) :
    n.raiseWatch key = n ∨ ∃ i, n.watchIndex key = some i ∧ n.raiseWatch key = n.raise .watch i := by
  unfold NoticeUnit.raiseWatch
  split
  · exact .inr ⟨_, ‹_›, rfl⟩
  · exact .inl rfl

/-! ### Recompute requests (R65) -/

/-- A reading is kept only for a computation under way, and not twice in a row; nothing else changes. -/
theorem BalanceEngine.note_cases (now : Reading) (b : BalanceEngine) :
    b.note now = b ∨ (b.computing.isSome = true ∧ b.note now = { b with seen := b.seen ++ [now] }) := by
  unfold BalanceEngine.note
  split
  · exact .inr ⟨(‹_ ∧ _›).1, rfl⟩
  · exact .inl rfl

@[simp] theorem BalanceEngine.note_records (now : Reading) (b : BalanceEngine) : (b.note now).records = b.records := by
  rcases b.note_cases now with h | ⟨-, h⟩ <;> rw [h]

@[simp] theorem BalanceEngine.note_queue (now : Reading) (b : BalanceEngine) : (b.note now).queue = b.queue := by
  rcases b.note_cases now with h | ⟨-, h⟩ <;> rw [h]

@[simp] theorem BalanceEngine.note_computing (now : Reading) (b : BalanceEngine) :
    (b.note now).computing = b.computing := by
  rcases b.note_cases now with h | ⟨-, h⟩ <;> rw [h]

@[simp] theorem BalanceEngine.note_status? (now : Reading) (b : BalanceEngine) (p : Nat) :
    (b.note now).status? p = b.status? p := by
  simp [BalanceEngine.status?]

/-- What a recompute request can do to the engine. -/
theorem BalanceEngine.request_cases (now : Reading) (b : BalanceEngine) (p : Nat) :
    (b.status? p = some .idle
        ∧ b.request now p = { (b.note now).setStatus p .queued with queue := b.queue ++ [p] })
    ∨ (b.status? p = some .computing ∧ b.request now p = (b.note now).setStatus p .computingRedo)
    ∨ ((b.status? p = some .computingRedo ∨ b.status? p = some .queued ∨ b.status? p = none)
        ∧ b.request now p = b.note now) := by
  unfold BalanceEngine.request
  dsimp only
  rw [b.note_status? now p]
  split <;> simp_all

@[simp] theorem BalanceEngine.modify_computing (b : BalanceEngine) (p : Nat) (f : ParcelRecord → ParcelRecord) :
    (b.modify p f).computing = b.computing := rfl

@[simp] theorem BalanceEngine.modify_queue (b : BalanceEngine) (p : Nat) (f : ParcelRecord → ParcelRecord) :
    (b.modify p f).queue = b.queue := rfl

@[simp] theorem BalanceEngine.setStatus_computing (b : BalanceEngine) (p : Nat) (st : ComputeStatus) :
    (b.setStatus p st).computing = b.computing := rfl

/-- A request changes no parcel number and not which parcel is being computed. -/
theorem BalanceEngine.request_computing (now : Reading) (b : BalanceEngine) (p : Nat) :
    (b.request now p).computing = b.computing := by
  rcases b.request_cases now p with ⟨-, h⟩ | ⟨-, h⟩ | ⟨-, h⟩ <;> rw [h] <;> simp

theorem BalanceEngine.setStatus_parcels (b : BalanceEngine) (p : Nat) (st : ComputeStatus) :
    (b.setStatus p st).records.map (·.parcel) = b.records.map (·.parcel) := by
  simp only [BalanceEngine.setStatus, BalanceEngine.modify, List.map_map]
  exact List.map_congr_left (fun r _ => by simp only [Function.comp]; split <;> rfl)

theorem BalanceEngine.request_parcels (now : Reading) (b : BalanceEngine) (p : Nat) :
    (b.request now p).records.map (·.parcel) = b.records.map (·.parcel) := by
  rcases b.request_cases now p with ⟨-, h⟩ | ⟨-, h⟩ | ⟨-, h⟩ <;> rw [h]
  · exact ((b.note now).setStatus_parcels p .queued).trans (by simp)
  · exact ((b.note now).setStatus_parcels p .computingRedo).trans (by simp)
  · simp

/-! ### The transmit job queue (R124, R125, R127) -/

theorem Publisher.hasJob_iff (p : Publisher) (sub : Subject) : p.hasJob sub = true ↔ ∃ j ∈ p.queue, j.subject = sub := by
  simp [Publisher.hasJob]

/-- What giving a subject can do. -/
theorem Publisher.give_cases (p : Publisher) (sub : Subject) :
    (p.hasJob sub = false ∧ p.give sub = { p with queue := p.queue ++ [newJob sub] })
    ∨ (p.hasJob sub = true ∧ p.give sub = { p with queue := p.queue.map (fun j =>
        if j.subject = sub ∧ j.inFlight then { j with resend := true } else j) }) := by
  unfold Publisher.give
  split <;> simp_all

/-- The subjects in the queue after one was given. -/
theorem Publisher.give_subjects (p : Publisher) (sub : Subject) :
    (p.give sub).queue.map (·.subject) =
      p.queue.map (·.subject) ++ (if p.hasJob sub then [] else [sub]) := by
  rcases p.give_cases sub with ⟨h, e⟩ | ⟨h, e⟩ <;> rw [e, h]
  · simp [newJob]
  · simp only [List.map_map, if_true, List.append_nil]
    exact List.map_congr_left (fun j _ => by simp only [Function.comp]; split <;> rfl)

theorem Publisher.giveByTimer_subjects (p : Publisher) (sub : Subject) :
    (p.giveByTimer sub).queue.map (·.subject) =
      p.queue.map (·.subject) ++ (if p.hasJob sub then [] else [sub]) := by
  unfold Publisher.giveByTimer
  cases h : p.hasJob sub <;> simp [newJob]

theorem Publisher.clashed_subjects (p : Publisher) : p.clashed.queue.map (·.subject) = p.queue.map (·.subject) := by
  simp only [Publisher.clashed, List.map_map]
  exact List.map_congr_left (fun j _ => by simp only [Function.comp]; split <;> rfl)

/-! ### The table (R24, R25, R27, R34) -/

theorem isEntry_iff {slot point : Nat} {e : PeerEntry} : isEntry slot point e = true ↔ e.slot = slot ∧ e.point = point := by
  simp [isEntry]

theorem keyBefore_iff {s1 p1 s2 p2 : Nat} : keyBefore s1 p1 s2 p2 = true ↔ s1 < s2 ∨ (s1 = s2 ∧ p1 < p2) := by
  simp [keyBefore]

theorem mem_insertEntry_self (e : PeerEntry) (l : List PeerEntry) : e ∈ insertEntry e l := by
  induction l with
  | nil => simp [insertEntry]
  | cons x xs ih =>
    unfold insertEntry
    split
    · simp
    · split <;> simp [ih]

/-- Entries of other keys are neither added nor lost. -/
theorem mem_insertEntry_of_ne {e x : PeerEntry} {l : List PeerEntry} (h : isEntry e.slot e.point x = false) :
    x ∈ insertEntry e l ↔ x ∈ l := by
  have hne : x ≠ e := by
    rintro rfl
    simp [isEntry] at h
  induction l with
  | nil => simp [insertEntry, hne]
  | cons y ys ih =>
    unfold insertEntry
    split
    · have : x ≠ y := by
        rintro rfl
        simp_all
      simp [hne, this]
    · split <;> simp [hne, ih]

theorem mem_upsert_self {α : Type} (number : α → Nat) (x : α) (l : List α) : x ∈ upsert number x l := by
  induction l with
  | nil => simp [upsert]
  | cons y ys ih =>
    unfold upsert
    split
    · simp
    · split <;> simp [ih]

theorem Hold.isClear_iff (h : Hold) : h.isClear = true ↔ h = { holder := none, waiting := false } := by
  rcases h with ⟨holder, waiting⟩
  cases holder <;> cases waiting <;> simp [Hold.isClear]

theorem Hold.release_of_waiting {h : Hold} (hw : h.waiting = true) :
    h.release = { holder := some .attestation, waiting := false } := by
  simp [Hold.release, hw]

theorem Hold.release_of_not_waiting {h : Hold} (hw : h.waiting = false) : h.release = Hold.clear := by
  simp [Hold.release, hw]

/-- Raising to a level never lowers. -/
theorem Protection.raised_throughClosing (p : Protection) : p.raised .throughClosing = .throughClosing := by
  cases p <;> rfl

theorem Protection.raised_throughOpening (p : Protection) :
    p.raised .throughOpening = if p = .none then .throughOpening else p := by
  cases p <;> rfl

/-- A protection raise touches the own points and the change count alone. -/
theorem FigureTable.protect_cases (t : FigureTable) (level : Protection) (which : OwnPoint → Bool) :
    let own := t.own.map (fun p => if which p then { p with protection := p.protection.raised level } else p)
    (own = t.own ∧ t.protect level which = t) ∨ (own ≠ t.own ∧ t.protect level which = { t.changed 1 with own := own }) := by
  intro own
  by_cases h : own = t.own
  · exact .inl ⟨h, by simp only [FigureTable.protect]; exact if_pos h⟩
  · exact .inr ⟨h, by simp only [FigureTable.protect]; exact if_neg h⟩

/-! ### Peer records (R64, R115) -/

/-- Writing a peer record changes that record, and requests a recompute of every parcel when a field the balance reads of it
changed. -/
theorem State.setPeer_cases (slot : Nat) (r : PeerRecord) (s : State) :
    ((s.peer slot).balanceKey = r.balanceKey ∧ s.setPeer slot r = { s with peers := s.peers.set slot r })
    ∨ ((s.peer slot).balanceKey ≠ r.balanceKey
        ∧ s.setPeer slot r = ({ s with peers := s.peers.set slot r } : State).requestAll s.sheetParcels) := by
  unfold State.setPeer State.writePeer
  by_cases h : (s.peer slot).balanceKey = r.balanceKey
  · simp [h]
  · simp [h]; rfl

theorem State.peer_setPeer_self {slot : Nat} {s : State} (h : slot < s.peers.length) (r : PeerRecord) :
    (s.setPeer slot r).peer slot = r := by
  simp [State.peer, State.setPeer_peers, List.getD_eq_getElem?_getD, h]

theorem State.peer_setPeer_of_ne {slot i : Nat} (h : i ≠ slot) (s : State) (r : PeerRecord) :
    (s.setPeer slot r).peer i = s.peer i := by
  simp [State.peer, State.setPeer_peers, List.getD_eq_getElem?_getD, List.getElem?_set_ne (Ne.symm h)]

/-! ### The Standardisation Unit (R18, R21) -/

/-- A release ends the service of the requester's request; no other service ends by it. -/
theorem Stu.release_cases (r : Requester) (u : Stu) :
    (∃ v, u.inService = some v ∧ v.requester = r ∧ u.release r = { u with inService := none })
    ∨ ((∀ v, u.inService = some v → v.requester ≠ r) ∧ u.release r = u) := by
  rcases u with ⟨_ | v, pw, iw, ls⟩
  · exact .inr ⟨by simp, rfl⟩
  · by_cases h : v.requester = r
    · exact .inl ⟨v, rfl, h, by simp [Stu.release, Option.filter, h]⟩
    · exact .inr ⟨by simpa using h, by simp [Stu.release, Option.filter, h]⟩

@[simp] theorem Stu.release_portWaiting (r : Requester) (u : Stu) : (u.release r).portWaiting = u.portWaiting := rfl
@[simp] theorem Stu.release_intakeWaiting (r : Requester) (u : Stu) : (u.release r).intakeWaiting = u.intakeWaiting := rfl
@[simp] theorem Stu.release_lastServed (r : Requester) (u : Stu) : (u.release r).lastServed = u.lastServed := rfl

/-! ### Sets of slots (R74, R92) -/

theorem slotBit_getLsbD (slot i : Nat) : (slotBit slot).getLsbD i = (decide (i < 16) && decide (i = slot)) := by
  simp only [slotBit, BitVec.getLsbD_ofNat, Nat.testBit_two_pow, eq_comm]

theorem slotAdd_getLsbD (set : BitVec 16) (slot i : Nat) :
    (slotAdd set slot).getLsbD i = (set.getLsbD i || (decide (i < 16) && decide (i = slot))) := by
  rw [slotAdd, BitVec.getLsbD_or, slotBit_getLsbD]

theorem slotDrop_getLsbD (set : BitVec 16) (slot i : Nat) :
    (slotDrop set slot).getLsbD i = (set.getLsbD i && decide (i ≠ slot)) := by
  rw [slotDrop, BitVec.getLsbD_and, BitVec.getLsbD_not, slotBit_getLsbD]
  by_cases h : i < 16
  · simp [h]
  · simp [BitVec.getLsbD_of_ge set i (by omega)]

/-- The slot found is the lowest of the set at or above the bound; where none is found there is none. -/
theorem lowestFrom_pointsTo (set : BitVec 16) (bound : Nat) : PointsTo set bound (lowestFrom set bound) := by
  cases h : lowestFrom set bound with
  | none =>
    refine .inr ⟨rfl, fun j hj => ?_⟩
    have := List.find?_eq_none.1 h j
    by_cases hlt : j < 16
    · simpa [hj, hlt, slotIn] using this
    · exact BitVec.getLsbD_of_ge set j (by omega)
  | some i =>
    refine .inl ⟨i, rfl, ?_⟩
    obtain ⟨hp, as, bs, hl, hn⟩ := List.find?_eq_some_iff_append.1 h
    simp only [Bool.and_eq_true, decide_eq_true_eq, slotIn] at hp
    refine ⟨hp.1, hp.2, fun j hj hji => ?_⟩
    have hi : i < 16 := List.mem_range.1 (hl ▸ by simp)
    have has : j ∈ as := by
      have hlen : as.length = i := by
        have h1 : (List.range 16)[as.length]? = some i := by rw [hl]; simp
        have h2 : as.length < 16 := by
          have := congrArg List.length hl
          simp at this
          omega
        rw [List.getElem?_range h2] at h1
        simpa using h1
      have h3 : (List.range 16)[j]? = some j := List.getElem?_range (by omega)
      rw [hl, List.getElem?_append_left (by omega)] at h3
      exact List.mem_of_getElem? h3
    have := hn j has
    simpa [hj, slotIn] using this

/-! ### Bytes (spec 00, "Byte order") -/

@[simp] theorem beBytes_length (w n : Nat) : (beBytes w n).length = w := by
  induction w with
  | zero => rfl
  | succ w ih => simp [beBytes, ih]

theorem beNat_append (a b : List Byte) : beNat (a ++ b) = beNat a * 256 ^ b.length + beNat b := by
  have key : ∀ (l : List Byte) (acc : Nat),
      l.foldl (fun x y => x * 256 + y.toNat) acc = acc * 256 ^ l.length + l.foldl (fun x y => x * 256 + y.toNat) 0 := by
    intro l
    induction l with
    | nil => simp
    | cons c l ih =>
      intro acc
      simp only [List.foldl_cons, List.length_cons]
      rw [ih, ih (0 * 256 + c.toNat)]
      ring
  simp only [beNat, List.foldl_append]
  exact key b _

theorem beNat_beBytes {w n : Nat} (h : n < 256 ^ w) : beNat (beBytes w n) = n := by
  have key : ∀ w n, beNat (beBytes w n) = n % 256 ^ w := by
    intro w
    induction w with
    | zero => intro n; simp [beBytes, beNat, Nat.mod_one]
    | succ w ih =>
      intro n
      have : beBytes (w + 1) n = [BitVec.ofNat 8 (n / 256 ^ w)] ++ beBytes w n := rfl
      rw [this, beNat_append, ih, beBytes_length]
      simp only [beNat, List.foldl_cons, List.foldl_nil, BitVec.toNat_ofNat, Nat.zero_mul, Nat.zero_add, Nat.reducePow]
      rw [pow_succ, Nat.mod_mul, Nat.mul_comm (n / 256 ^ w % 256), Nat.add_comm]
  rw [key, Nat.mod_eq_of_lt h]

/-! ### Rounding (spec 00, "Rounding"; section 3.3) -/

/-- Half up: the quotient is within half a divisor, the half itself rounded up. -/
theorem divHalfUp_bounds (n : Nat) {d : Nat} (h : 0 < d) :
    d * divHalfUp n d ≤ n + d / 2 ∧ n + d / 2 < d * (divHalfUp n d + 1) := by
  unfold divHalfUp
  exact ⟨Nat.mul_div_le .., Nat.lt_mul_div_succ _ h⟩

/-- Half away from zero: the magnitude is the magnitude's quotient rounded half up. -/
theorem divHalfAway_natAbs (a : Int) {d : Nat} (h : 0 < d) :
    2 * d * (divHalfAway a d).natAbs ≤ 2 * a.natAbs + d ∧ 2 * a.natAbs + d < 2 * d * ((divHalfAway a d).natAbs + 1) := by
  have hm : (divHalfAway a d).natAbs = if d ≤ 2 * (a.natAbs % d) then a.natAbs / d + 1 else a.natAbs / d := by
    simp only [divHalfAway]
    generalize a.natAbs / d = q
    generalize a.natAbs % d = r
    split <;> split <;> omega
  have hd := Nat.div_add_mod a.natAbs d
  have hlt := Nat.mod_lt a.natAbs h
  rw [hm]
  generalize a.natAbs / d = q at *
  generalize a.natAbs % d = r at *
  rw [← hd]
  split
  · constructor <;> nlinarith
  · constructor <;> nlinarith

/-- The sign is the dividend's. -/
theorem divHalfAway_sign (a : Int) (d : Nat) : (0 ≤ a → 0 ≤ divHalfAway a d) ∧ (a < 0 → divHalfAway a d ≤ 0) := by
  simp only [divHalfAway]
  generalize a.natAbs / d = q
  generalize a.natAbs % d = r
  constructor <;> intro h <;> split <;> split <;> omega

/-! ### Readings of a changing table (R67, log 11) -/

theorem mem_entriesFrom {keys : List (Nat × Nat)} {version : Nat → Nat → Reading} {e : PeerEntry} :
    e ∈ entriesFrom keys version ↔ ∃ k ∈ keys, (version k.1 k.2).entries.find? (isEntry k.1 k.2) = some e := by
  simp [entriesFrom, List.mem_filterMap]

/-- Each entry is one of the version that its own key picks. -/
theorem entry_of_mem_entriesFrom {keys : List (Nat × Nat)} {version : Nat → Nat → Reading} {e : PeerEntry}
    (h : e ∈ entriesFrom keys version) : (e.slot, e.point) ∈ keys ∧ e ∈ (version e.slot e.point).entries := by
  obtain ⟨⟨slot, point⟩, hk, hf⟩ := mem_entriesFrom.1 h
  have hp := List.find?_some hf
  simp only [isEntry, decide_eq_true_eq] at hp
  obtain ⟨rfl, rfl⟩ := hp
  exact ⟨hk, List.mem_of_find?_eq_some hf⟩

/-! ### Codes (section 10.4) -/

theorem Epoch.ofCode_code (e : Epoch) : Epoch.ofCode e.code = some e := by cases e <;> rfl

theorem Role.ofCode_code (r : Role) : Role.ofCode r.code = some r := by cases r <;> rfl

theorem EdgeSelect.ofCode_code (e : EdgeSelect) : EdgeSelect.ofCode e.code = some e := by cases e <;> rfl

theorem NoticeKind.ofNumber_number (k : NoticeKind) : NoticeKind.ofNumber k.number = some k := by cases k <;> rfl

theorem ObsQuals.ofMask_mask (q : ObsQuals) : ObsQuals.ofMask q.mask = some q := by
  rcases q with ⟨_ | _, _ | _, _ | _, _ | _, _ | _⟩ <;> rfl

end Sys2Proof.Machine
end

