-- ==== Sys2Proof/Tests/Slice0.lean ====
section
/-! SUPPORT. Tests: the spec's worked cases, one step each; ill-formed commands; the request bytes of section 10.2; and for
each statement with hypotheses a state and operands that meet them. Expected values are the spec's, by the section each
comment names. -/

namespace Sys2Proof.Tests

set_option Elab.async false

open Sys2Proof.Machine

/-! ### Helpers: node 5 of the worked discharge (section 7.6) -/

def next (c : Instr) (s : State) : State :=
  match exec c s with
  | .next t => t
  | .fault _ | .refused _ => s

def parcel2 : ParcelDef :=
  { number := 2, tRef := 1500, a := 950, b := 1200, d := 8562, vef := 100350, inner := 150, outer := 300,
    custody := .tanks }

def sheet5 : Sheet :=
  { header := { number := 4417, revision := 3, ownSlot := 5, direction := .discharge, amendMode := .each, silence := 30,
                republish := 5 }
    parcels := [parcel2]
    roster := ((((List.replicate 16 Role.empty).set 2 .ship).set 5 .shoreTanks).set 9 .shoreMeters).set 12 .survey
    points := [⟨0, 2, 0⟩, ⟨1, 2, 0⟩] }

def inState (node : NodeState) : State := { State.reset with sheet := ⟨node, some sheet5, 0⟩ }

def tank (k : Nat) : OwnPoint := OwnPoint.create .shoreTank ⟨k, 2, 0⟩

/-- Node 5 right after START, its first job sent. -/
def active : State :=
  { inState .active with
    table := { FigureTable.reset with own := [tank 0, tank 1], changeCount := 1 }
    balance := { BalanceEngine.reset with records := [ParcelRecord.create .idle 2] }
    attest := [AttestRecord.create 2 .opening, AttestRecord.create 2 .closing]
    lau := { Lau.reset with line := .seek }
    pub := { Publisher.reset with presenceTimer := some 2000000, republishTimer := some 1250000 } }

def final : State :=
  { active with
    sheet := ⟨.final, some sheet5, 0⟩
    table := { active.table with own := active.table.own.map (fun p => { p with protection := .throughClosing }) } }

/-- The figures of section 1.7's shore tank. -/
def rawTank : RawFigures := { quantity := 12480000, water := 3200, temperature := 3840 }
def stdTank : Standard := { vcf := 97843, gsv := 12207675, mass := 10452211, quals := {} }
def obsTank : Observation := { revision := 1, raw := rawTank, std := stdTank }

/-- Own point 0 with an OPENING. -/
def posted : State :=
  { active with table := { active.table with own := [{ tank 0 with slots := { opening := some obsTank } }, tank 1] } }

/-- Both own points with OPENING and CLOSING. -/
def closed : State :=
  { active with table := { active.table with own := [tank 0, tank 1].map (fun p =>
      { p with slots := { opening := some obsTank, closing := some obsTank } }) } }

def busyWith (op : LongOp) (s : State) : State := { s with port := { s.port with busy := some op, last := .busy } }

def withHold (h : Hold) (s : State) : State := { s with table := { s.table with hold := h } }

def onLine (l : LineState) (s : State) : State := { s with lau := { s.lau with line := l } }

def withPeer (slot : Nat) (r : PeerRecord) (s : State) : State := { s with peers := s.peers.set slot r }

def withFrame (f : Frame) (s : State) : State := { s with intake := { s.intake with queue := [f] } }

def merging (m : Merge) (s : State) : State := { s with intake := { s.intake with merging := some m } }

def withNotices (ns : List Notice) (s : State) : State := { s with notices := { s.notices with pending := ns } }

/-- Station 9 heard, with generation 0 and a baseline. -/
def heardAt (baseline : BitVec 16) : PeerRecord :=
  { PeerRecord.reset with
    state := .present, heard := some ⟨.shoreMeters, 4417, 3⟩, generation := some 0, baseline := some baseline
    timer := some 7500000 }

def entry9 : PeerEntry :=
  { slot := 9, point := 1, kind := .meter, parcel := 2, meterFactor := 100120,
    slots := { opening := some { obs := { revision := 1, raw := { quantity := 3156240, water := 0, temperature := 3650 },
                                          std := { vcf := 98013, gsv := 3097237, mass := 2651854, quals := {} } },
                                 source := ⟨3097237, {}⟩, mismatch := false, conflict := false } } }

/-- The meter run of section 1.7 as a FIGURE frame of station 9, with its sequence. -/
def figureOf (sequence : BitVec 16) (revision : Nat) : Frame :=
  { kind := 2, source := 9, generation := 0, sequence := sequence
    body := [1, 3, 2, 1, 0x01, 0x87, 0x18] ++ beBytes 2 revision ++
      [0x00, 0x30, 0x29, 0x10, 0, 0, 0, 0, 0x0E, 0x42, 0x00, 0x2F, 0x42, 0x95, 0, 0] }

def presenceOf (role : Byte) (sequence : BitVec 16) (revision : Byte) : Frame :=
  { kind := 1, source := 9, generation := 0, sequence := sequence
    body := [role, 3, 0, 0, 0x11, 0x41, 0, revision, 1, 0x02] }

def item9 (source : Option (Nat × SourceFigures)) : StuItem :=
  { parcel := 2, kind := .meter, meterFactor := 100120, epoch := .opening,
    raw := { quantity := 3156240, water := 0, temperature := 3650 }, source := source }

def result9 : StuResult :=
  { item := item9 (some (1, ⟨3097237, {}⟩)), std := { vcf := 98013, gsv := 3097237, mass := 2651854, quals := {} },
    mismatch := false }

/-! ### Ill-formed commands are refused by their check (R157, R158, section 10.1) -/

theorem test_wellFormed_unknownRequest : Instr.wellFormed (.unknownRequest 0x20) = false := by decide +kernel
theorem test_wellFormed_earlyDeselection_none : Instr.wellFormed (.earlyDeselection 0) = false := by decide +kernel
theorem test_wellFormed_earlyDeselection_all : Instr.wellFormed (.earlyDeselection 144) = false := by decide +kernel
theorem test_wellFormed_frame_short : Instr.wellFormed (.frameReceived (List.replicate 7 0xA7)) = false := by decide +kernel
theorem test_wellFormed_frame_long : Instr.wellFormed (.frameReceived (List.replicate 70 0xA7)) = false := by decide +kernel
theorem test_wellFormed_good : Instr.wellFormed (.unknownRequest 0x99) = true ∧ Instr.wellFormed (.earlyDeselection 143) = true
    ∧ Instr.wellFormed (.frameReceived (List.replicate 69 0xA7)) = true := by decide +kernel

/-! ### Request bytes, written out from section 10.2 -/

theorem test_decode_post : decodeRequest [0x20, 0, 1, 0x00, 0xBE, 0x6E, 0x00, 0x00, 0x00, 0x0C, 0x80, 0x0F, 0x00]
    = .taken (.post 0 1 12480000 3200 3840) := by decide +kernel
theorem test_decode_sheetBegin : decodeRequest [0x10, 0, 0, 0x11, 0x41, 0, 3, 5, 0, 0, 0, 30, 5]
    = .taken (.sheetBegin 4417 3 5 0 0 30 5) := by decide +kernel
theorem test_decode_sheetParcel :
    decodeRequest [0x11, 2, 0x05, 0xDC, 0x03, 0xB6, 0x04, 0xB0, 0x21, 0x72, 0x01, 0x87, 0xFE, 0, 150, 0x01, 0x2C, 0]
      = .taken (.sheetParcel 2 1500 950 1200 8562 100350 150 300 0) := by decide +kernel
theorem test_decode_ignores_more : decodeRequest [0x31, 8, 2, 0xFF] = .taken (.acknowledge 8 2) := by decide +kernel
theorem test_decode_not_taken : decodeRequest [0x41, 0, 9] = .notTaken := by decide +kernel
theorem test_decode_unknown : decodeRequest [0x28, 1] = .taken (.unknownRequest 0x28) := by decide +kernel
theorem test_no_table_word : decodeTableWord 8 0x20 = none := by decide +kernel

/-! ### Standardisation: section 1.7 -/

theorem test_stu_tank : standardise parcel2 .shoreTank 0 rawTank = stdTank := by decide +kernel
theorem test_stu_meter : standardise parcel2 .meter 100120 { quantity := 3156240, water := 0, temperature := 3650 }
    = { vcf := 98013, gsv := 3097237, mass := 2651854, quals := {} } := by decide +kernel
theorem test_stu_half : (stageGsv 5 90000).1 = 5 ∧ (stageGsv 5 89999).1 = 4 ∧ (stageVcf 9784250000000).1 = 97843 := by decide +kernel
theorem test_stu_waterClamp : standardise parcel2 .shoreTank 0 { quantity := 5000, water := 6000, temperature := 1500 }
    = { vcf := 100000, gsv := 0, mass := 0, quals := { waterClamp := true } } := by decide +kernel
theorem test_stu_dtClamp :
    standardise { parcel2 with tRef := -1000, a := 1200, b := 800, d := 9500 } .shipTank 0
        { quantity := 1000000, water := 0, temperature := 15000 }
      = { vcf := 88800, gsv := 888000, mass := 843600, quals := { dtClamp := true } } := by decide +kernel
theorem test_stu_vcfClamp :
    standardise { parcel2 with tRef := 2500, a := 3000, b := 0, d := 9000 } .shoreTank 0
        { quantity := 1000000, water := 0, temperature := 12500 }
      = { vcf := 80000, gsv := 800000, mass := 720000, quals := { vcfClamp := true } } := by decide +kernel

/-! ### Totals to verdict: section 3.8 -/

theorem test_adjusted : shipAdjustedOf 24000000 100350 = 23916293 ∧ shipAdjustedOf (-7) 100350 = -7 := by decide +kernel
theorem test_ratio : rawRatio (-44793) 23916293 = -187 ∧ rawRatio (-1) 200000 = -1 ∧ rawRatio 1000 (-200000) = -500
    ∧ clampRatio (rawRatio 1500 1000) = 99999 := by decide +kernel
theorem test_verdict : verdictOf 150 300 (-187) = .marginal ∧ verdictOf 150 300 (-535) = .outside
    ∧ verdictOf 0 0 0 = .within := by decide +kernel
theorem test_edges : edgeNotice .worse .noBasis .within = none ∧ edgeNotice .worse .within .marginal = some .verdictWorse
    ∧ edgeNotice .worse .outside .within = none ∧ edgeNotice .both .outside .within = some .verdictBetter := by decide +kernel

/-! ### Sheet requests and START: section 7.6 -/

theorem test_sheetBegin : (next (.sheetBegin 4417 3 5 0 0 30 5) State.reset).sheet.node = .loading
    ∧ (next (.sheetBegin 4417 3 5 0 0 30 5) State.reset).port.reply = [0x00] := by decide +kernel
theorem test_sheetBegin_badMode : (next (.sheetBegin 4417 3 5 0 3 30 5) State.reset).port.reply = [0x06] := by decide +kernel
theorem test_sheetParcel_bands : (next (.sheetParcel 2 1500 950 1200 8562 100350 300 150 0) (inState .loading)).port.reply
    = [0x06] := by decide +kernel
theorem test_sheetParcel : ((next (.sheetParcel 1 (BitVec.ofInt 16 (-1000)) 950 1200 8562 100350 150 300 1)
    (inState .loading)).sheet.sheet.map (fun sh => sh.parcels.map (·.number))) = some [1, 2] := by decide +kernel
theorem test_sheetRoster : ((next (.sheetRoster 2 0) (inState .loading)).sheet.sheet.map (fun sh => sh.roster.getD 2 .ship))
    = some .empty := by decide +kernel
theorem test_sheetPoint : ((next (.sheetPoint 1 3 0) (inState .loading)).sheet.sheet.map (·.points))
    = some [⟨0, 2, 0⟩, ⟨1, 3, 0⟩] := by decide +kernel
theorem test_sheetEnd : (next .sheetEnd (inState .loading)).port.busy = some .sheetEnd := by decide +kernel
theorem test_sheetEndComplete : (next .sheetEndComplete (busyWith .sheetEnd (inState .loading))).sheet.node = .loaded := by
  decide +kernel
theorem test_sheetEndComplete_reason :
    (next .sheetEndComplete (busyWith .sheetEnd
      (next (.sheetPoint 1 3 0) (inState .loading)))).sheet.reason = 5 := by decide +kernel
theorem test_start : (next .start (inState .loaded)).table = active.table
    ∧ (next .start (inState .loaded)).pub.queue = [newJob .presence] := by decide +kernel

/-! ### Own figures: sections 2.7 and 9.10 -/

theorem test_post_order : (next (.post 0 2 8000000 3200 3840) active).port.reply = [0x0A] := by decide +kernel
theorem test_post : (next (.post 0 1 12480000 3200 3840) active).port.reply = [0x01] := by decide +kernel
/-- Node 5 with the first OPENING of point 0 back from the STU. -/
def storing : State :=
  let item : StuItem :=
    { parcel := 2, kind := .shoreTank, meterFactor := 0, epoch := .opening, raw := rawTank, source := none }
  let result : StuResult := { item := item, std := stdTank, mismatch := false }
  busyWith (.post 0) { active with table := { active.table with postResult := some result } }

theorem test_postStore : (next .postStore storing).table = { posted.table with changeCount := 2 } := by decide +kernel
theorem test_post_noPermit : (next (.post 0 1 12480000 3200 3840) posted).port.reply = [0x0D] := by decide +kernel
theorem test_permit : (next .permit posted).table.permit = true := by decide +kernel
theorem test_revoke : (next .revoke { posted with table := { posted.table with permit := true } }).table.permit = false := by
  decide +kernel
theorem test_withdraw_noPermit : (next (.withdraw 0) posted).port.reply = [0x0D]
    ∧ (next (.withdraw 0) posted).port.last = .done := by decide +kernel
theorem test_withdrawalMade : (next .withdrawalMade (busyWith (.withdraw 0) posted)).table.own = [{ tank 0 with withdrawn := true }, tank 1]
    := by decide +kernel
theorem test_finalise_incomplete : (next .finalise posted).port.reply = [0x0F] := by decide +kernel
theorem test_finaliseMade : (next .finaliseMade (busyWith .finalise closed)).sheet.node = .final
    ∧ ((next .finaliseMade (busyWith .finalise closed)).table.own.map (·.protection))
      = [.throughClosing, .throughClosing] := by decide +kernel
theorem test_restart : (next .restart final).port.busy = some .restart := by decide +kernel
theorem test_restartChange : (next .restartChange (busyWith .restart final)).table.own = [tank 0, tank 1]
    ∧ (next .restartChange (busyWith .restart final)).pub.generation = 1 := by decide +kernel

/-! ### STU arbiter and service: R18, R19 -/

theorem test_stuGrant_tie :
    (next .stuGrant { active with stu := ⟨none, some [item9 none], some [item9 none], .intake⟩ }).stu.lastServed = .port := by
  decide +kernel
theorem test_stuObservationComputed :
    ((next .stuObservationComputed (merging (.figure 9 1 .meter 2 100120 none)
      { active with stu := ⟨some ⟨.intake, [result9.item], []⟩, none, none, .intake⟩ })).intake.merging)
      = some (.figure 9 1 .meter 2 100120 (some [result9])) := by decide +kernel

/-- The POST's service, every observation computed and the results handed over. -/
def served (s : State) : State := { s with stu := ⟨some ⟨.port, [], []⟩, none, some [item9 none], .port⟩ }

/-- The STU is free again only when the POST's results are stored (R18). -/
theorem test_stu_heldUntilStored : next .stuGrant (served storing) = served storing
    ∧ (next .stuGrant (next .postStore (served storing))).stu.lastServed = .intake := by decide +kernel

/-! ### Attestation: section 4.8 -/

theorem test_attest_hold : (next (.attest 2 3) closed).table.hold = ⟨some .attestation, false⟩ := by decide +kernel
theorem test_attest_incomplete : (next (.attest 2 1) posted).port.reply = [0x0F] := by decide +kernel
theorem test_intakeHoldSet : (next .intakeHoldSet (withHold ⟨none, true⟩ active)).table.hold = ⟨some .attestation, false⟩ := by
  decide +kernel
theorem test_attestScanComplete :
    ((next .attestScanComplete (busyWith (.attest 2 .opening) (withHold ⟨some .attestation, false⟩ closed))).attest.map
      (·.summary)) = [some ⟨2, 24415350⟩, none] := by decide +kernel
theorem test_comparison_diverges :
    (next .comparisonComplete (merging (.comparison 9 2 .opening ⟨1, 5⟩) (withHold ⟨some .intake, true⟩ closed))).notices.pending
      = [⟨.viewDiverge, 2, 0⟩] := by decide +kernel
theorem test_comparison_matches :
    ((next .comparisonComplete (merging (.comparison 9 2 .opening ⟨2, 24415350⟩)
      (withHold ⟨some .intake, true⟩ closed))).attest.map (fun r => r.matching.toNat)) = [512, 0] := by decide +kernel

/-! ### Notices: section 8.9 -/

def pending5 : List Notice :=
  [⟨.verdictWorse, 2, 0⟩, ⟨.peerAbsent, 9, 1⟩, ⟨.limit, 2, 0⟩, ⟨.watch, 0, 0⟩, ⟨.peerReturn, 9, 0⟩]

theorem test_raise_order : ([(NoticeKind.peerAbsent, 9), (.limit, 2), (.verdictWorse, 2), (.peerReturn, 9), (.watch, 0),
    (.peerAbsent, 9)].foldl (fun ns kj => raisePending kj.1 kj.2 ns) []) = pending5 := by decide +kernel
theorem test_serviceQuery : (next .serviceQuery (withNotices pending5 active)).port.reply = [0, 0, 2, 0] := by decide +kernel
theorem test_acknowledge : (next (.acknowledge 0 2) (withNotices pending5 active)).notices.pending = pending5.tail := by decide +kernel
theorem test_acknowledge_notFound : (next (.acknowledge 0 2) active).port.reply = [0x13] := by decide +kernel
theorem test_noticeEnable : (next (.noticeEnable 3 0) (withNotices [⟨.peerAbsent, 9, 0⟩] active)).noticeLow = false := by decide +kernel
theorem test_edgeSelect : (next (.edgeSelect 2 3) active).notices.edge 2 = .none
    ∧ (next (.edgeSelect 2 4) active).port.reply = [0x06] := by decide +kernel
theorem test_readNotices : (next .readNotices (withNotices [⟨.peerAbsent, 9, 1⟩] active)).port.reply
    = [0, 1, 0x07, 0xFF, 3, 9, 1] := by decide +kernel
theorem test_watchAdd : (next (.watchAdd 9 1) active).port.reply = [0, 0]
    ∧ (next (.watchAdd 9 1) active).notices.watchIndex ⟨9, 1⟩ = some 0 := by decide +kernel
theorem test_watchRemove : (next (.watchRemove 9 1) (next (.watchAdd 9 1) active)).notices.watch = active.notices.watch := by
  decide +kernel

/-! ### Reads: sections 9.4 to 9.8, 10.3 -/

theorem test_identify : (next .identify State.reset).port.reply = [0, 0x42, 0x16, 1, 16, 8, 24, 160, 16] := by decide +kernel
theorem test_status : (next .status (busyWith (.post 0) active)).port.reply
    = [0, 1, 0x20, 0x02, 0, 3, 0, 0, 0x11, 0x41, 0, 3, 0, 0, 0, 1, 2, 0, 1, 0, 0, 0, 0, 0, 0x07, 0xFF, 0] := by decide +kernel
theorem test_readPoint : (next (.readPoint 0) posted).port.reply
    = [0, 0, 2, 2, 0, 0, 0, 0, 0, 1, 0, 1, 0x00, 0xBE, 0x6E, 0x00, 0, 0, 0x0C, 0x80, 0x0F, 0x00, 0x01, 0x7E, 0x33,
       0x00, 0xBA, 0x46, 0x3B, 0x00, 0x9F, 0x7C, 0xF3, 0, 0] := by decide +kernel
theorem test_readEntry_form : (next (.readEntry 3 0 0) active).port.reply = [0x06]
    ∧ (next (.readEntry 0 9 1) active).port.reply = [0x13] := by decide +kernel
theorem test_readParcel_edge : (next (.readParcel 2) active).port.reply.length = 86
    ∧ (next (.readParcel 3) active).port.reply = [0x08] := by decide +kernel
theorem test_readAttest : (next (.readAttest 2 3) active).port.reply
    = [0, 2, 3, 0, 0, 0, 0, 0, 0, 0, 0, 0, 0, 0, 0, 0, 0] := by decide +kernel
theorem test_readPeer : ((next (.readPeer 9) (withPeer 9 (heardAt 5) active)).port.reply.drop 27) = [0, 30, 0] := by decide +kernel
theorem test_readCounters : (next .readCounters active).port.reply.length = 55 := by decide +kernel

/-! ### SDO: section 9.1 -/

/-- SDO is 0x00 during the code, carries the reply's result and data, then 0x00, and is not driven with SEL high. -/
theorem test_sdo : (let s := next .identify active
    [[], [0x00], List.replicate 9 0x00, List.replicate 10 0x00].map (s.sdo true)
      = [some 0x00, some 0x00, some 16, some 0x00] ∧ s.sdo false [0x00] = none) := by decide +kernel

/-! ### The walk of section 9.11 -/

def ent (slot point : Nat) : PeerEntry :=
  { slot := slot, point := point, kind := .shipTank, parcel := 2, meterFactor := 0, slots := {} }

def walking (pos : WalkPos) (entries : List PeerEntry) : State :=
  { active with
    table := { active.table with own := [tank 1], entries := entries, changeCount := 42 }
    port := { active.port with walk := some pos } }

theorem test_walk : (next (.walk 0) active).port.reply = [0, 0, 0, 0, 1] := by decide +kernel
theorem test_walk_first : (next .walkRecordTaken (walking (.start 0) [ent 2 3])).port.walk = some (.afterOwn 1) := by decide +kernel
theorem test_walk_afterRemoved :
    (next .walkRecordTaken (walking (.afterEntry 2 3) [ent 2 3, ent 5 0, ent 5 1])).port.walk = some (.afterEntry 5 0) := by
  decide +kernel
theorem test_walk_end :
    (next .walkRecordTaken (walking (.afterEntry 5 1) [ent 2 3, ent 2 7, ent 5 0, ent 5 1])).port.reply
      = [0xFF, 0, 0, 0, 42] := by decide +kernel
theorem test_walkDeselected : (next .walkDeselected (walking (.start 0) [])).port.walk = none := by decide +kernel

/-! ### The line: section 5.9 -/

/-- The active node with the quiet count given. -/
def quietFor (n : Nat) : State := { active with lau := { active.lau with quietCount := n } }

theorem test_quiet : (next .quiet (quietFor 48)).lau.line = .window ∧ next .quiet (quietFor 47) = quietFor 47 := by
  decide +kernel
theorem test_claimDecision :
    (next .claimDecision (onLine .window { active with pub := { active.pub with queue := [newJob .presence] } })).lau.ownClaim
      = true := by decide +kernel
theorem test_claimSlotSample : (next (.claimSlotSample 12 true) (onLine .window active)).lau.claimWord = 0x1000 := by decide +kernel
theorem test_windowEnd :
    (next .windowEnd { active with lau := { active.lau with line := .window, claimWord := 0x1224 } }).lau.pointer = some 2 := by
  decide +kernel
theorem test_windowEnd_empty : (next .windowEnd (onLine .window active)).lau.line = .seek := by decide +kernel

/-- Node 5 awaiting in a round with the given claim word and pointer. -/
def inRound (word : BitVec 16) (pointer : Option Nat) : State :=
  { active with
    lau := { active.lau with line := .round .awaiting, claimWord := word, pointer := pointer, ownClaim := true }
    pub := { active.pub with queue := [newJob .presence, newJob (.point 0)] } }

theorem test_turnTimeout : (next .turnTimeout (inRound 0x1224 (some 9))).lau.pointer = some 12
    ∧ (next .turnTimeout (inRound 0x1224 (some 12))).lau.pointer = none := by decide +kernel
theorem test_turnGap :
    (next .turnGap (inRound 0x1224 (some 5))).pub.queue = [⟨.presence, true, false⟩, newJob (.point 0)]
    ∧ (next .turnGap (inRound 0x1224 (some 5))).lau.lde = true := by decide +kernel
theorem test_turnGap_other : (next .turnGap (inRound 0x1224 (some 2))).lau = (inRound 0x1224 (some 2)).lau := by decide +kernel

/-- Node 5 sending the one byte 0xA7, which it drives as bits 0 (start), 1 to 8 (10100111, 1 recessive) and 9 (stop). -/
def sendingAt (bit : Nat) : State :=
  { onLine (.round (.sending [0xA7] bit)) (inRound 0x1224 (some 5)) with
    pub := { active.pub with queue := [⟨.point 0, true, true⟩, newJob .presence], sequence := 117 } }

theorem test_sendComplete : (next (.sendComplete false) (sendingAt 9)).pub.queue = [newJob .presence, newJob (.point 0)]
    ∧ (next (.sendComplete false) (sendingAt 9)).pub.sequence = 118
    ∧ next (.sendComplete false) (sendingAt 8) = sendingAt 8 := by decide +kernel
theorem test_sendComplete_turn : (next (.sendComplete true) (sendingAt 9)).lau.pointer = some 9
    ∧ (next (.sendComplete true) (sendingAt 9)).lau.quietCount = 0 := by decide +kernel
theorem test_clash : (next .clash (sendingAt 1)).pub.queue = [newJob (.point 0), newJob .presence]
    ∧ (next .clash (sendingAt 1)).lau.ltx = true := by decide +kernel
/-- The start bit and bit 2 of 0xA7 are dominant; at the last stop bit the frame goes on as sent (R98). -/
theorem test_clash_elsewhere : [0, 2, 9].map (fun n => decide (next .clash (sendingAt n) = sendingAt n))
    = [true, true, true] := by decide +kernel
/-- The claim slot and the clash mark are dominant, a frame's bits are 0xA7's, and nothing is driven in SEEK (R89). -/
theorem test_pins :
    (let pins := fun (l : Lau) => (l.lde, l.ltx)
     [{ (onLine .window active).lau with claiming := true }, (onLine (.round .clashMark) active).lau, active.lau].map pins
        = [(true, true), (true, true), (false, false)]
      ∧ [0, 1, 2, 9].map (fun n => pins (sendingAt n).lau) = [(true, true), (true, false), (true, true), (true, false)]) := by
  decide +kernel
/-- The stop bit and the three 1 bits at the end of 0xA7; all of a byte's bits, and none (R89, R91). -/
theorem test_trailingRecessive : [[0xA7], [0x00, 0xFF], [0xFF, 0x00]].map trailingRecessive = [4, 9, 1] := by decide +kernel
theorem test_clashMarkEnd :
    (next .clashMarkEnd { active with lau := { active.lau with line := .round .clashMark, clashRun := 16 } }).lau.mute = true := by
  decide +kernel
theorem test_receptionFailed :
    (next .receptionFailed { active with lau := { active.lau with line := .round .receiving, failureRun := 15 } }).notices.pending
      = [⟨.linkFault, 0, 0⟩] := by decide +kernel
/-- While awaiting no reception is under way; while receiving the quiet count goes on from the last dominant level (R96). -/
theorem test_receptionFailed_count :
    (let s := onLine (.round .awaiting) (quietFor 47)
     next .receptionFailed s = s)
    ∧ (let s := onLine (.round .receiving) (quietFor 3)
       (next .receptionFailed s).lau.quietCount = 3 ∧ (next .receptionFailed s).lau.line = .seek) := by decide +kernel
theorem test_frameReceived :
    (next (.frameReceived (figureOf 5 1).bytes) (inRound 0x1224 (some 9))).intake.queue = [figureOf 5 1] := by decide +kernel
theorem test_frameReceived_own :
    (next (.frameReceived { figureOf 5 1 with source := 5 }.bytes) (inRound 0x1224 (some 9))).lau.mute = true := by decide +kernel
theorem test_dominantLevelRead : (next (.dominantLevelRead true) (inRound 0x1224 (some 9))).lau.line = .round .receiving := by
  decide +kernel
theorem test_linkReset :
    (next .linkReset (withPeer 9 (heardAt 5) posted)).pub.queue = [newJob .presence, newJob (.point 0)]
    ∧ ((next .linkReset (withPeer 9 (heardAt 5) posted)).peer 9).state = .unheard := by decide +kernel
theorem test_tick : (onLine .window active).tick = { active with
    lau := { active.lau with line := .window, quietCount := 1 }
    pub := { active.pub with presenceTimer := some 1999999, republishTimer := some 1249999 } } := by decide +kernel

/-! ### Frames: sections 10.1, 10.5; the check of R169 over 123456789 -/

theorem test_crc : crc [0x31, 0x32, 0x33, 0x34, 0x35, 0x36, 0x37, 0x38, 0x39] = 0xAEE7#16 := by decide +kernel
theorem test_frame_example :
    Frame.form { kind := 2, source := 5, generation := 0, sequence := 0,
                 body := [0, 2, 2, 1, 0, 0, 0, 0, 1, 0x00, 0xBE, 0x6E, 0x00, 0, 0, 0x0C, 0x80, 0x0F, 0x00,
                          0x00, 0xBA, 0x46, 0x3B, 0, 0] }
      = some (.figure 0 2 2 0 [(.opening, { revision := 1, raw := rawTank, sourceGsv := 12207675, sourceMask := 0 })]) := by
  decide +kernel
theorem test_frame_built : (posted.frameOf (.point 0)).map (·.body)
    = some [0, 2, 2, 1, 0, 0, 0, 0, 1, 0x00, 0xBE, 0x6E, 0x00, 0, 0, 0x0C, 0x80, 0x0F, 0x00, 0x00, 0xBA, 0x46, 0x3B, 0, 0] := by
  decide +kernel

/-! ### Intake and peers: sections 2.7 and 6.5 -/

def handled (r : PeerRecord) (f : Frame) : State := next .intakeTakeFrame (withFrame f (withPeer 9 r active))

theorem test_intake_unheard : (handled PeerRecord.reset (figureOf 3 1)).intake.counters.notPresent = 1 := by decide +kernel
theorem test_intake_presence : ((handled PeerRecord.reset (presenceOf 3 4 3)).peer 9).baseline = some 4
    ∧ ((handled PeerRecord.reset (presenceOf 3 4 3)).peer 9).declaredCount = 1 := by decide +kernel
theorem test_intake_gap : ((handled (heardAt 5) (figureOf 8 1)).peer 9).missing = 2 := by decide +kernel
/-- The frame after a gap, and one from a returning station, pass on to the Figure Table (R118, R120). -/
theorem test_intake_gap_toStu : (handled (heardAt 2) (figureOf 5 1)).stu.intakeWaiting = some [result9.item]
    ∧ (handled { heardAt 2 with state := .absent, timer := none } (figureOf 5 1)).stu.intakeWaiting = some [result9.item] := by
  decide +kernel
theorem test_intake_stepBack : (handled (heardAt 8) (presenceOf 3 0 3)).intake.counters.stepBacks = 1 := by decide +kernel
theorem test_intake_foreign : ((handled (heardAt 5) (presenceOf 3 6 4)).peer 9).state = .foreign := by decide +kernel
/-- An UNHEARD station whose record keeps another generation loses its entries at its PRESENCE (R116). -/
theorem test_intake_otherGeneration :
    (let s := withPeer 9 { PeerRecord.reset with generation := some 7 }
        { active with table := { active.table with entries := [entry9] } }
     (next .intakeTakeFrame (withFrame (presenceOf 3 4 3) s)).table.entries) = [] := by decide +kernel
/-- A FIGURE frame without a block is MALFORMED (R37, R113, R168). -/
theorem test_intake_noBlock :
    (handled (heardAt 4) { figureOf 5 1 with body := [1, 3, 2, 0, 0x01, 0x87, 0x18] }).intake.counters.malformed = 1 := by
  decide +kernel
theorem test_intake_toStu : (handled (heardAt 4) (figureOf 5 1)).stu.intakeWaiting = some [result9.item] := by decide +kernel
theorem test_frameMerge :
    (next .frameMerge (merging (.figure 9 1 .meter 2 100120 (some [result9])) active)).table.entries = [entry9] := by decide +kernel
theorem test_silence :
    (next (.silenceTimerExpiry 9) (withPeer 9 { heardAt 5 with timer := some 0 } active)).notices.pending
      = [⟨.peerAbsent, 9, 0⟩] := by decide +kernel

/-! ### Publisher timers: section 6.5 -/

/-- Both publisher timers have run down, the rotation stands at point 0. -/
def expired (s : State) : State :=
  { s with pub := { s.pub with presenceTimer := some 0, republishTimer := some 0, rotation := some (.point 0) } }

theorem test_presenceTimer : (next .presenceTimerExpiry (expired active)).pub.queue = [newJob .presence] := by decide +kernel
theorem test_republishTimer : (next .republishTimerExpiry (expired closed)).pub.rotation = some (.point 1)
    ∧ (next .republishTimerExpiry (expired closed)).pub.republishTimer = some 1250000 := by decide +kernel

/-! ### Balance: section 3.8, "Redo and settling" -/

def computingRow (st : ComputeStatus) : State :=
  { active with balance :=
    { records := [{ ParcelRecord.create st 2 with count := 1 }], queue := [], computing := some 2, seen := [active.reading] } }

theorem test_balanceTake :
    ((next .balanceTake { active with balance := { active.balance with
      records := [ParcelRecord.create .queued 2], queue := [2] } }).balance.computing) = some 2 := by decide +kernel
theorem test_balanceComplete : ((next .balanceComplete (computingRow .computing)).balance.records.map
    (fun r => (r.settled, r.status, r.count.toNat, r.result.quals.isPartial))) = [(true, .idle, 2, true)] := by decide +kernel
theorem test_balanceComplete_redo : ((next .balanceComplete (computingRow .computingRedo)).balance.records.map
    (fun r => (r.settled, r.status, r.count.toNat))) = [(false, .queued, 2)]
    ∧ (next .balanceComplete (computingRow .computingRedo)).balance.queue = [2] := by decide +kernel

/-! ### Reset and selections -/

theorem test_powerOn : next (.powerOnReset true) closed = { State.reset with resetAsserted := true } := by decide +kernel
theorem test_resetReleased : (next (.resetReleased true) { State.reset with resetAsserted := true }).port.ignoring = true := by
  decide +kernel
theorem test_unknownRequest : (next (.unknownRequest 0x28) active).port.reply = [0x04] := by decide +kernel
theorem test_earlyDeselection : (next (.earlyDeselection 32) active).port.last = .short := by decide +kernel

/-! ### Witnesses: for each statement with hypotheses, states and operands that meet them, clause by clause -/

/-- The last values of every range: 160 entries, validation reason 8, the highest sheet name, counters at their top. -/
def fullEntries : List PeerEntry :=
  ((List.range 24).map (ent 2) ++ (List.range 24).map (ent 3) ++ (List.range 24).map (ent 4)
    ++ (List.range 24).map (ent 6) ++ (List.range 24).map (ent 9) ++ (List.range 24).map (ent 12)
    ++ (List.range 16).map (ent 15))

def topSheet : Sheet := { sheet5 with header := { sheet5.header with number := 4294967295, revision := 65535 } }

def full : State :=
  { active with
    sheet := ⟨.active, some topSheet, 8⟩
    table := { active.table with own := (List.range 24).map tank, entries := fullEntries }
    intake := { active.intake with
      queue := List.replicate 16 (figureOf 5 1)
      counters := { checkFailures := 4294967295, conflicts := 4294967295 } }
    lau := { active.lau with framesSent := 4294967295, clashes := 4294967295 } }

def topRaw : RawFigures := { quantity := 4000000000, water := 4000000000, temperature := -4000 }

def topObs : Observation :=
  { revision := 65535, raw := { topRaw with temperature := 15000 }
    std := { vcf := 120000, gsv := 4294967295, mass := 4294967295, quals := { gsvSat := true, massSat := true } } }

def fullTank : OwnPoint :=
  { tank 23 with parcel := 8, slots := { opening := some topObs, interim := some obsTank, closing := some topObs } }

def fullEntry : PeerEntry :=
  { slot := 15, point := 23, kind := .meter, parcel := 8, meterFactor := 110000
    slots := { opening := some { obs := topObs, source := ⟨4294967295, {}⟩, mismatch := true, conflict := true }
               closing := some { obs := obsTank, source := ⟨0, {}⟩, mismatch := false, conflict := false } } }

theorem witness_PortRefusesUnderResetAndWhileBusy :
    (isRequest .identify = true ∧ ({ active with resetAsserted := true } : State).resetAsserted = true)
    ∧ (isRequest (.walk 255) = true ∧ ({ active with port := { active.port with ignoring := true } } : State).port.ignoring = true)
    ∧ (active.takes ∧ paramBytes 0x00 = none ∧ paramBytes 0xFF = none ∧ paramBytes 0x48 = none)
    ∧ (({ active with port := { active.port with ignoring := true } } : State).resetAsserted = false)
    ∧ (isRequest .start = true ∧ servedWhileBusy .start = false ∧ (busyWith .restart active).takes
        ∧ (busyWith .restart active).port.busy.isSome = true)
    ∧ (servedWhileBusy .identify = true ∧ Instr.identify ≠ .status) := by decide +kernel

theorem witness_PortRefuses_served : exec .identify active = .next (next .identify active) := rfl

theorem witness_IdentifyReply : State.reset.takes ∧ (busyWith (.post 0) active).takes := by decide

theorem witness_StatusAndCountersReplies :
    (full.takes ∧ full.table.own.length ≤ 24 ∧ full.table.entries.length ≤ 160 ∧ full.sheet.reason ≤ 8
      ∧ full.table.entries.length = 160
      ∧ ∀ sh ∈ full.sheet.sheet, sh.header.number ≤ 4294967295 ∧ sh.header.revision ≤ 65535)
    ∧ (full.intake.queue.length ≤ 16 ∧ ∀ v ∈ [full.lau.framesSent, full.lau.clashes, full.intake.counters.checkFailures,
        full.intake.counters.malformed, full.intake.counters.conflicts], v ≤ 4294967295)
    ∧ (State.reset.takes ∧ State.reset.sheet.sheet = none ∧ State.reset.port.busy = none) := by decide +kernel

theorem witness_ReadsReturnTheRecordsHeld :
    full.takes ∧ State.reset.takes ∧ 1 < (2 : Byte).toNat ∧ 1 < (255 : Byte).toNat
    ∧ (ParcelRecord.create .idle 2).result.ratio = none ∧ (-99999 : Int) ≤ -99999 ∧ (99999 : Int) ≤ 99999
    ∧ (AttestRecord.create 8 .closing).summary = none
    ∧ (({ AttestRecord.create 8 .closing with summary := some ⟨65535, 2 ^ 48 - 1⟩ } : AttestRecord).summary.map
        (fun v => decide (v.count ≤ 65535 ∧ v.sum < 2 ^ 48))) = some true
    ∧ PeerRecord.reset.heard = none ∧ PeerRecord.reset.generation = none ∧ PeerRecord.reset.baseline = none
    ∧ PeerRecord.reset.timer = none
    ∧ ({ heardAt 5 with timer := some (300 * 250000) } : PeerRecord).timer = some (300 * 250000)
    ∧ ({ heardAt 5 with timer := some 0 } : PeerRecord).timer = some (0 * 250000) := by decide +kernel

/-- The last totals and counts that fit their fields; the last slot and values of a peer record. -/
def topParcel : ParcelRecord :=
  { ParcelRecord.create .idle 8 with
    result := { (ParcelRecord.create .idle 8).result with
      shipTotal := -9223372036854775808, custodyTotal := 9223372036854775807, shipCount := 255, ratio := some (-99999) } }

def topPeer : PeerRecord :=
  { heardAt 65535 with
    heard := some ⟨.survey, 4294967295, 65535⟩, generation := some 255, declaredCount := 24, declaredMask := 255
    accepted := 4294967295, missing := 4294967295, timer := some 250001 }

theorem witness_Reads_ranges :
    (topParcel.parcel ≤ 8 ∧ -9223372036854775808 ≤ topParcel.result.shipTotal
      ∧ topParcel.result.custodyTotal ≤ 9223372036854775807 ∧ topParcel.result.shipCount ≤ 255
      ∧ topParcel.result.ratio = some (-99999))
    ∧ (topPeer.heard = some ⟨.survey, 4294967295, 65535⟩ ∧ topPeer.generation = some 255 ∧ topPeer.baseline = some 65535
      ∧ topPeer.declaredCount ≤ 24 ∧ topPeer.accepted ≤ 4294967295 ∧ topPeer.missing ≤ 4294967295)
    ∧ [(1, 1), (250000, 1), (250001, 2), (74750001, 300), (75000000, 300)].map (fun (bs : Nat × Nat) =>
        decide (bs.2 ≤ 300 ∧ bs.1 ≤ bs.2 * 250000 ∧ bs.2 * 250000 < bs.1 + 250000)) = List.replicate 5 true := by
  decide +kernel

theorem witness_ObservationRecordLayouts :
    (fullTank.number ≤ 23 ∧ fullTank.parcel ≤ 8 ∧ fullTank.meterFactor ≤ 110000 ∧ fullTank.slots.held[0]? = some topObs
      ∧ fullTank.slots.held[2]? = some topObs)
    ∧ (topObs.revision ≤ 65535 ∧ topObs.raw.quantity ≤ 4294967295 ∧ topObs.raw.water ≤ 4294967295
      ∧ -32768 ≤ topObs.raw.temperature ∧ topObs.raw.temperature ≤ 32767 ∧ topObs.std.vcf ≤ 16777215
      ∧ topObs.std.gsv ≤ 4294967295 ∧ topObs.std.mass ≤ 4294967295)
    ∧ (fullEntry.parcel ≤ 8 ∧ fullEntry.meterFactor ≤ 110000
      ∧ (fullEntry.slots.held[0]?.map (fun o => decide (o.source.gsv ≤ 4294967295 ∧ o.obs = topObs))) = some true
      ∧ (fullEntry.slots.held[1]?).isSome = true) := by decide +kernel

theorem witness_WalkFollowsTheTableByKey :
    active.takes ∧ active.port.walk = none
    ∧ (let s := walking (.afterEntry 15 15) fullEntries
       s.port.walk = some (.afterEntry 15 15) ∧ Ascending (s.table.own.map (·.number)) ∧ (∀ p ∈ s.table.own, p.number < 24)
        ∧ s.table.entries.Pairwise (fun d e => keyBefore d.slot d.point e.slot e.point = true)
        ∧ (∀ e ∈ s.table.entries, e.slot < 16 ∧ e.point < 24) ∧ WalkPos.inRange (.afterEntry 15 15)) := by
  decide +kernel

/-- The record after the key (2, 3) is that of (5, 0); after the last key none follows; from index 0 the own point. -/
theorem witness_WalkFollowsTheTableByKey_next :
    (TableRecord.entry (ent 5 0)).isNext (walking (.afterEntry 2 3) [ent 2 3, ent 5 0]).table.records (.afterEntry 2 3)
    ∧ (∀ r ∈ (walking (.afterEntry 5 0) [ent 2 3, ent 5 0]).table.records,
        ¬ r.isNext (walking (.afterEntry 5 0) [ent 2 3, ent 5 0]).table.records (.afterEntry 5 0))
    ∧ (TableRecord.own (tank 1)).isNext (walking (.start 0) []).table.records (.start 0)
    ∧ (TableRecord.entry (ent 2 3)).isNext (walking (.afterOwn 1) [ent 2 3]).table.records (.afterOwn 1) := by
  simp only [TableRecord.isNext]
  decide +kernel

theorem witness_portIdle : State.reset.portIdle ∧ (inState .loading).portIdle ∧ (inState .loaded).portIdle ∧ active.portIdle
    ∧ final.portIdle := by decide

theorem witness_SheetBeginStartsAFreshSheet : State.reset.portIdle ∧ final.portIdle := by decide

theorem witness_SheetDefinitionsAreTakenInLoading :
    (inState .loading).portIdle ∧ (inState .loading).sheet.node = .loading ∧ (inState .loaded).portIdle := by decide

/-- The eight checks of section 7.2 on a sheet, as the statement writes them. -/
def sheetChecks (sh : Sheet) : List Bool :=
  let own := sh.roster.getD sh.header.ownSlot .empty
  [ decide (0 < sh.parcels.length), decide (own ≠ .empty), decide (own = .survey → sh.points.length = 0),
    decide (own ≠ .survey → 0 < sh.points.length), decide (∀ p ∈ sh.points, ∃ d ∈ sh.parcels, d.number = p.parcel),
    decide (∀ p ∈ sh.points, if own = .shoreMeters then 90000 ≤ p.meterFactor ∧ p.meterFactor ≤ 110000
      else p.meterFactor = 0),
    decide (∃ r ∈ sh.roster, r = .ship), decide (∃ r ∈ sh.roster, r = .shoreTanks ∨ r = .shoreMeters) ]

def withRoles (roles : List (Nat × Role)) (points : List PointDef) : Sheet :=
  { sheet5 with roster := roles.foldl (fun l r => l.set r.1 r.2) (List.replicate 16 Role.empty), points := points }

/-- All pass on the worked sheet; each check in turn is the first that fails. -/
theorem witness_SheetEndValidatesInOrder :
    (busyWith .sheetEnd (inState .loading)).port.busy = some .sheetEnd
    ∧ (busyWith .sheetEnd (inState .loading)).sheet.sheet = some sheet5
    ∧ [sheet5, { sheet5 with parcels := [] }, withRoles [] [⟨0, 2, 0⟩], withRoles [(5, .survey)] [⟨0, 2, 0⟩],
        withRoles [(5, .ship)] [], withRoles [(5, .ship)] [⟨0, 3, 0⟩], withRoles [(5, .ship)] [⟨0, 2, 90000⟩],
        withRoles [(5, .shoreTanks)] [⟨0, 2, 0⟩], withRoles [(5, .ship)] [⟨0, 2, 0⟩]].map
          (fun sh => (sheetChecks sh).findIdx? (fun c => !c))
        = [none, some 0, some 1, some 2, some 3, some 4, some 5, some 6, some 7] := by decide +kernel

theorem witness_StartBringsTheBlocksIntoBeing :
    (State.reset.portIdle ∧ State.reset.sheet.node ≠ .loaded)
    ∧ ((inState .loaded).portIdle ∧ (inState .loaded).sheet.node = .loaded ∧ (inState .loaded).sheet.sheet = some sheet5) := by
  decide

/-- The first of the conditions of R29, as the statement writes them, for a POST of quantity 12,480,000 without water. -/
def postRefusal (point epoch : Byte) (s : State) : Option ResultCode :=
  let found := s.table.own.find? (fun p => decide (p.number = point.toNat))
  let is := fun (f : OwnPoint → Bool) => found.any f
  let slot := fun (p : OwnPoint) => if epoch = 1 then p.slots.opening else if epoch = 2 then p.slots.interim else p.slots.closing
  firstRefusal
    [ (s.port.busy.isSome, .busy), (decide (s.sheet.node = .final), .finalised), (decide (s.sheet.node ≠ .active), .state),
      (found.isNone, .noPoint), (is (·.withdrawn), .withdrawn), (decide (epoch.toNat < 1 ∨ 3 < epoch.toNat), .range),
      (is (fun p => decide (epoch ≠ 1) && p.slots.opening.isNone), .order),
      (is (fun p => decide (epoch = 2) && p.slots.closing.isSome), .closed),
      (is (fun p => decide (p.protection = .throughClosing ∨ (p.protection = .throughOpening ∧ epoch = 1))), .isProtected),
      (is (fun p => decide (epoch ≠ 2) && (slot p).isSome && decide (s.amendMode ≠ .none) && !s.table.permit), .noPermit),
      (is (fun p => (slot p).any (fun o => decide (o.revision = 65535))), .revisionLimit) ]

theorem witness_PostIsCheckedInOrder :
    active.takes ∧ (busyWith .restart active).takes
    ∧ postRefusal 0 1 active = none ∧ postRefusal 0 1 (busyWith .restart active) = some .busy
    ∧ postRefusal 0 1 final = some .finalised ∧ postRefusal 0 1 State.reset = some .state
    ∧ postRefusal 23 1 active = some .noPoint ∧ postRefusal 0 4 active = some .range ∧ postRefusal 0 2 active = some .order
    ∧ postRefusal 0 2 closed = some .closed ∧ postRefusal 0 1 posted = some .noPermit := by decide +kernel

theorem witness_PostStoreIsOneChangeWithItsFanOut :
    (storing.port.busy = some (.post 0) ∧ storing.table.postResult.isSome = true
      ∧ storing.table.own.find? (fun q => decide (q.number = 0)) = some (tank 0)
      ∧ storing.table.hold = { holder := none, waiting := false })
    ∧ (withHold ⟨some .attestation, false⟩ storing).table.hold.holder ≠ none
    ∧ (withHold ⟨none, true⟩ storing).table.hold.waiting = true := by decide +kernel

theorem witness_SettingRequests : active.portIdle ∧ State.reset.portIdle ∧ (10 < 11) := by decide

theorem witness_WithdrawIsCheckedAndMadeWhole :
    posted.portIdle
    ∧ (let s := busyWith (.withdraw 1) posted
       s.port.busy = some (.withdraw 1) ∧ s.table.own.find? (fun q => decide (q.number = 1)) = some (tank 1)
        ∧ s.table.hold = { holder := none, waiting := false })
    ∧ (withHold ⟨none, true⟩ posted).table.hold.waiting = true
    ∧ (withHold ⟨some .intake, false⟩ posted).table.hold.holder ≠ none := by decide +kernel

theorem witness_FinaliseProtectsAndEndsTheTransfer :
    closed.portIdle ∧ (busyWith .finalise closed).port.busy = some .finalise
    ∧ (busyWith .finalise closed).table.hold = { holder := none, waiting := false }
    ∧ (withHold ⟨some .intake, true⟩ closed).table.hold.holder ≠ none := by decide +kernel

theorem witness_RestartIsOneChangeOfManyBlocks :
    final.portIdle ∧ (busyWith .restart final).port.busy = some .restart
    ∧ (busyWith .restart final).table.hold = { holder := none, waiting := false }
    ∧ (withHold ⟨none, true⟩ final).table.hold.waiting = true := by decide +kernel

def ownItem : StuItem :=
  { parcel := 2, kind := .shoreTank, meterFactor := 0, epoch := .opening, raw := rawTank, source := none }

def serving (r : Requester) (items : List StuItem) : State :=
  merging (.figure 9 1 .meter 2 100120 none) { active with stu := ⟨some ⟨r, items, []⟩, none, none, .intake⟩ }

theorem witness_StuGrantsAndServes :
    (serving .port [ownItem]).stu.inService.isSome = true
    ∧ (active.stu.portWaiting = none ∧ active.stu.intakeWaiting = none)
    ∧ (let u : Stu := ⟨none, some [ownItem], some [item9 none], .intake⟩
       u.inService = none ∧ u.portWaiting = some [ownItem] ∧ u.lastServed = .intake ∧ u.intakeWaiting = some [item9 none])
    ∧ (let s := serving .intake [result9.item, result9.item]
       s.stu.inService = some ⟨.intake, result9.item :: [result9.item], []⟩ ∧ s.sheet.sheet = some sheet5
        ∧ sheet5.parcels.find? (fun q => decide (q.number = result9.item.parcel)) = some parcel2
        ∧ s.intake.merging = some (.figure 9 1 .meter 2 100120 none))
    ∧ (serving .port [ownItem]).stu.inService = some ⟨.port, ownItem :: [], []⟩
    ∧ (served storing).stu.inService = some ⟨.port, [], []⟩ := by decide +kernel

theorem witness_GrossObservedVolume :
    ({ quantity := 4000000000, water := 0, temperature := 15000 } : RawFigures).inRangeFor .meter = true
    ∧ topRaw.inRangeFor .shipTank = true ∧ topRaw.quantity = topRaw.water
    ∧ ({ quantity := 0, water := 1, temperature := -4000 } : RawFigures).inRangeFor .shoreTank = true
    ∧ ({ quantity := 1, water := 0, temperature := -4000 } : RawFigures).inRangeFor .shoreTank = true
    ∧ 90000 ≤ 90000 ∧ 110000 ≤ 110000 := by decide

theorem witness_TemperatureDifferenceAndVcf :
    ((10000 : Int) = 15000 - 5000) ∧ (-1000 : Int) ≤ -1000 ∧ (4000 : Int) ≤ 4000 ∧ (-4000 : Int) ≤ -4000
    ∧ (-10000 : Int) ≤ -4000 - 4000 ∧ (10000 : Int) < 15000 - 4999 ∧ (-4001 : Int) - 6000 < -10000
    ∧ 3000 ≤ 3000 ∧ 2000 ≤ 2000
    ∧ stageVcf 7999949999999 = (80000, true) ∧ stageVcf 7999950000000 = (80000, false)
    ∧ stageVcf 12000050000000 = (120000, true) ∧ stageVcf 12000049999999 = (120000, false) := by decide +kernel

/-- The largest product, a saturated volume, and the last volume that does not saturate. -/
theorem witness_GrossStandardVolumeAndMass :
    4400000000 ≤ 4400000000 ∧ 120000 ≤ 120000 ∧ 5000 ≤ 10001 ∧ 10001 ≤ 11000
    ∧ stageGsv 4400000000 120000 = (4294967295, true) ∧ 10000 < 10001
    ∧ stageGsv 4294967295 100000 = (4294967295, false) ∧ stageMass 4294967295 10000 = (4294967295, false) := by
  decide +kernel

theorem witness_AttestIsCheckedAndTakesTheHold :
    closed.portIdle
    ∧ ((withHold ⟨none, true⟩ active).table.hold = { holder := none, waiting := true } ∧ active.intake.merging = none)
    ∧ active.table.hold.waiting = false ∧ (withHold ⟨some .intake, true⟩ active).table.hold.holder ≠ none
    ∧ (merging (.figure 9 1 .meter 2 100120 none) active).intake.merging ≠ none := by decide +kernel

theorem witness_AttestScanStoresAndProtects :
    (let s := busyWith (.attest 2 .closing) (withHold ⟨some .attestation, false⟩ closed)
     s.port.busy = some (.attest 2 .closing) ∧ s.table.hold.holder = some .attestation)
    ∧ closed.table.hold.holder ≠ some .attestation := by decide +kernel

theorem witness_ComparisonPlacesTheStation :
    let s := merging (.comparison 15 2 .opening ⟨2, 24415350⟩) (withHold ⟨some .intake, true⟩ closed)
    s.intake.merging = some (.comparison 15 2 .opening ⟨2, 24415350⟩) ∧ s.table.hold.holder = some .intake ∧ 15 < 16 := by
  decide +kernel

theorem witness_RaiseAddsOrCounts :
    PendingOk pending5 ∧ PendingOk [⟨.limit, 2, 255⟩] ∧ (NoticeKind.limit, 2) ≠ (.limit, 3) := by decide +kernel

theorem witness_ServiceQueryAndReadNotices :
    (let s := withNotices pending5 active
     let n : Notice := ⟨.verdictWorse, 2, 0⟩
     s.takes ∧ PendingOk s.notices.pending ∧ n ∈ s.notices.pending ∧ s.notices.enables.getLsbD n.kind.number = true
      ∧ (∀ m ∈ s.notices.pending, s.notices.enables.getLsbD m.kind.number = true → m ≠ n →
        n.kind.priority < m.kind.priority ∨ (n.kind = m.kind ∧ n.subject < m.subject))
      ∧ ∃ n ∈ s.notices.pending, s.notices.enables.getLsbD n.kind.number = true)
    ∧ (let s := next (.noticeEnable 3 0) (withNotices [⟨.peerAbsent, 9, 0⟩] active)
       s.takes ∧ ∀ m ∈ s.notices.pending, s.notices.enables.getLsbD m.kind.number = false) := by decide +kernel

theorem witness_AcknowledgeRemovesOneEntry : (withNotices pending5 active).takes ∧ (busyWith (.post 0) active).takes := by
  decide

def watching : State :=
  { active with notices := { active.notices with watch := (List.replicate 16 none).set 0 (some ⟨9, 1⟩) } }

theorem witness_WatchAddAndWatchRemove :
    watching.portIdle ∧ watching.notices.watch[1]? = some none ∧ (∀ j < 1, watching.notices.watch[j]? ≠ some none)
    ∧ watching.notices.watch[0]? = some (some ⟨9, 1⟩) ∧ some ⟨9, 1⟩ ∈ watching.notices.watch
    ∧ (some ⟨15, 23⟩ ∉ watching.notices.watch ∧ none ∈ watching.notices.watch) ∧ 15 < (16 : Byte).toNat := by
  decide +kernel

/-- The last index holds the key, alone and behind a lower one that holds it too; the raise is at the lowest (R154). -/
theorem witness_WatchAdd_raise :
    (let watch := (List.replicate 16 none).set 15 (some ⟨9, 1⟩)
     let last : NoticeUnit := { active.notices with watch := watch }
     let twice : NoticeUnit := { active.notices with watch := watch.set 3 (some ⟨9, 1⟩) }
     (last.watch[15]? = some (some ⟨9, 1⟩) ∧ ∀ j < 15, last.watch[j]? ≠ some (some ⟨9, 1⟩))
      ∧ (twice.watch[3]? = some (some ⟨9, 1⟩) ∧ ∀ j < 3, twice.watch[j]? ≠ some (some ⟨9, 1⟩))
      ∧ (twice.raiseWatch ⟨9, 1⟩).pending = [⟨.watch, 3, 0⟩]
      ∧ some ⟨9, 0⟩ ∉ last.watch) := by decide +kernel

def engine (st : ComputeStatus) : BalanceEngine :=
  { BalanceEngine.reset with
    records := [ParcelRecord.create .queued 1, ParcelRecord.create st 8]
    queue := if st = .queued then [1, 8] else [1]
    computing := if st = .computing ∨ st = .computingRedo then some 8 else none }

theorem witness_RecomputeRequestActsOnTheStatus :
    ∀ st ∈ [ComputeStatus.idle, .queued, .computing, .computingRedo],
      QueueInv (engine st) ∧ ParcelRecord.create st 8 ∈ (engine st).records
        ∧ ∀ q ∈ (engine st).records, 1 ≤ q.parcel ∧ q.parcel ≤ 8 := by decide +kernel

/-- While a computation runs a new reading is kept, and the last one kept is not kept again. -/
theorem witness_RecomputeRequest_kept :
    (engine .computing).computing.isSome = true ∧ (engine .computing).seen.getLast? ≠ some active.reading
    ∧ (computingRow .computing).balance.seen.getLast? = some active.reading
    ∧ (engine .idle).computing = none := by decide +kernel

theorem witness_ComputationsAreTakenAndCompleted :
    (let b : BalanceEngine := { active.balance with records := [ParcelRecord.create .queued 2], queue := [2] }
     b.computing = none ∧ b.queue = 2 :: [])
    ∧ (∀ st ∈ [ComputeStatus.computing, .computingRedo], ∃ r ∈ (computingRow st).balance.records,
        (computingRow st).balance.computing = some 2 ∧ (computingRow st).sheet.sheet = some sheet5
        ∧ sheet5.parcels.find? (fun q => decide (q.number = 2)) = some parcel2
        ∧ (computingRow st).balance.records.find? (fun q => decide (q.parcel = 2)) = some r ∧ r.status = st)
    ∧ ((computingRow .computingRedo).table.own.map (·.number)).Nodup
    ∧ (∀ v ∈ (computingRow .computingRedo).balance.seen ++ [full.reading], v.entries.length ≤ 160)
    ∧ full.reading.entries.length = 160 := by
  decide +kernel

/-- A basis and none; a ratio clamped, and one at the outer band's last value. -/
theorem witness_AdjustedDifferenceRatioAndVerdict :
    95000 ≤ parcel2.vef ∧ parcel2.vef ≤ 105000 ∧ parcel2.inner ≤ parcel2.outer ∧ parcel2.outer ≤ 5000
    ∧ (compute sheet5 parcel2 active.reading).shipCount = 0 ∧ rawRatio 1500 1000 = 150000
    ∧ verdictOf 150 300 300 = .marginal ∧ verdictOf 150 300 (-301) = .outside := by decide +kernel

/-- A view with a ship tank and a shore tank, so that there is a basis. -/
def based : Reading :=
  { own := [{ tank 0 with slots := { opening := some obsTank, closing := some { obsTank with std := { stdTank with gsv := 0 } } } }]
    entries := [{ slot := 2, point := 0, kind := .shipTank, parcel := 2, meterFactor := 0
                  slots := { opening := some { obs := obsTank, source := ⟨12207675, {}⟩, mismatch := false, conflict := false }
                             closing := some { obs := { obsTank with std := { stdTank with gsv := 0 } }
                                               source := ⟨0, {}⟩, mismatch := false, conflict := false } } }]
    peers := (List.replicate 16 PeerRecord.reset).set 2 { heardAt 1 with declaredMask := 2, declaredCount := 1 }
    node := .active }

theorem witness_AdjustedDifference_basis :
    (compute sheet5 parcel2 based).shipCount ≠ 0 ∧ (compute sheet5 parcel2 based).custodyCount ≠ 0
    ∧ (compute sheet5 parcel2 based).shipAdjusted ≠ 0 := by decide +kernel

theorem witness_ParcelQualifiersSayWhatIsMissing : 1 ≤ parcel2.number ∧ parcel2.number ≤ 8 := by decide

theorem witness_LevelsQuietAndBitTimes :
    State.reset.lau.line = .off ∧ (active.lau.line ≠ .off ∧ active.lau.line ≠ .round .awaiting)
    ∧ (inRound 0x1224 (some 9)).lau.line = .round .awaiting ∧ active.lau.line = .seek ∧ active.pending = []
    ∧ (onLine .window active).lau.claiming = false
    ∧ (onLine (.round .clashMark) active).lau.line = .round .clashMark
    ∧ ((quietFor 48).lau.line = .seek ∧ 48 ≤ (quietFor 48).lau.quietCount ∧ (quietFor 47).lau.quietCount < 48)
    ∧ ((onLine (.round .awaiting) (quietFor 48)).lau.line = .round .awaiting
      ∧ 48 ≤ (onLine (.round .awaiting) (quietFor 48)).lau.quietCount)
    ∧ ((sendingAt 8).lau.line = .round (.sending [0xA7] 8) ∧ (sendingAt 9).lau.line = .round (.sending [0xA7] 9))
    ∧ [(0xA7 : Byte), 0x10][1]? = some 0x10
    ∧ ({ (onLine .window active).lau with claiming := true } : Lau).lde = true
    ∧ ((sendingAt 9).lau.claiming = false ∧ (sendingAt 9).lau.lde = true)
    ∧ (active.lau.lde = false ∧ State.reset.lau.lde = false) := by decide +kernel

theorem witness_WindowsAndTurns :
    ((onLine .window active).lau.line = .window ∧ (onLine .window active).lau.decided = false)
    ∧ active.lau.line ≠ .window ∧ (onLine .window active).lau.claimWord = 0
    ∧ ((inRound 0x1224 (some 9)).lau.line = .round .awaiting ∧ (inRound 0x1224 (some 9)).lau.pointer = some 9)
    ∧ (inRound 0x1224 none).lau.pointer = none := by decide +kernel

theorem witness_WindowsAndTurns_lowest : IsLowest 0x8000#16 0 15 ∧ IsLowest 0x1225#16 0 0 := by
  refine ⟨⟨by decide, by decide, ?_⟩, ⟨by decide, by decide, ?_⟩⟩
  · have all : ∀ j < 15, (0x8000#16).getLsbD j = false := by decide
    exact fun j _ h => all j h
  · exact fun j _ h => absurd h (Nat.not_lt_zero j)

def ownTurn : State := inRound 0x1224 (some 5)

theorem witness_OwnTurnStartsTheHeadJob :
    (ownTurn.lau.line = .round .awaiting ∧ ownTurn.lau.pointer = some ownTurn.ownSlot ∧ ownTurn.lau.ownClaim = true
      ∧ ownTurn.lau.lineClear = true ∧ ownTurn.lau.gapPassed = false ∧ ownTurn.lau.sentInRound = false)
    ∧ (ownTurn.lau.mute = false ∧ ownTurn.pub.queue = newJob .presence :: [newJob (.point 0)])
    ∧ (ownTurn.frameOf .presence).isSome = true ∧ ownTurn.frameOf (.point 0) = none
    ∧ (inRound 0x1224 (some 9)).lau.pointer ≠ some (inRound 0x1224 (some 9)).ownSlot := by decide +kernel

/-- A point to publish, a withdrawn one and an attest record with its summary. -/
def publishing : State :=
  { posted with
    table := { posted.table with own := [{ tank 0 with slots := { opening := some topObs } }, { tank 1 with withdrawn := true },
      tank 23] }
    attest := [{ AttestRecord.create 2 .opening with summary := some ⟨65535, 2 ^ 48 - 1⟩ }, AttestRecord.create 2 .closing] }

theorem witness_FramesSayWhatTheirSubjectStandsFor :
    publishing.sheet.sheet = some sheet5 ∧ sheet5.header.ownSlot < 16 ∧ sheet5.header.number ≤ 4294967295
    ∧ sheet5.header.revision ≤ 65535 ∧ publishing.table.own.length ≤ 24
    ∧ (∀ p ∈ publishing.table.own, p.number < 24 ∧ 1 ≤ p.parcel ∧ p.parcel ≤ 8 ∧ p.meterFactor ≤ 110000
        ∧ ∀ o ∈ p.slots.held, o.revision ≤ 65535 ∧ o.raw.quantity ≤ 4000000000 ∧ o.raw.water ≤ 4000000000
          ∧ -4000 ≤ o.raw.temperature ∧ o.raw.temperature ≤ 15000 ∧ o.std.gsv ≤ 4294967295)
    ∧ sheet5.roster.getD sheet5.header.ownSlot Role.empty ≠ .empty
    ∧ [0, 1, 23].map (fun k => (publishing.table.own.find? (fun q => decide (q.number = k))).map
        (fun p => (p.withdrawn, p.slots.held.length))) = [some (false, 1), some (true, 0), some (false, 0)]
    ∧ publishing.attest.map (fun r => decide (r.summary = none)) = [false, true]
    ∧ (publishing.table.own[0]?).bind (fun p => p.slots.held[0]?) = some topObs := by decide +kernel

theorem witness_SendsEndCompleteOrInAClash :
    ((sendingAt 9).lau.line = .round (.sending [0xA7] 9) ∧ 10 * [(0xA7 : Byte)].length ≤ 9 + 1)
    ∧ ((sendingAt 1).lau.line = .round (.sending [0xA7] 1) ∧ frameBit [0xA7] 1 = false ∧ 1 + 1 < 10 * [(0xA7 : Byte)].length)
    ∧ (frameBit [0xA7] 0 = true ∧ frameBit [0xA7] 2 = true ∧ 8 + 1 < 10 * [(0xA7 : Byte)].length)
    ∧ (sendingAt 9).pub.queue = ⟨.point 0, true, true⟩ :: [newJob .presence]
    ∧ (∀ k ∈ [newJob .presence], k.inFlight = false) ∧ (∀ j ∈ active.pub.queue, j.inFlight = false)
    ∧ (let s : State := { active with lau := { active.lau with line := .round .clashMark, clashRun := 15 } }
       s.lau.line = .round .clashMark ∧ s.lau.clashRun < 16)
    ∧ (let s : State := { active with lau := { active.lau with line := .round .clashMark, clashRun := 16 } }
       s.lau.line = .round .clashMark ∧ 16 ≤ s.lau.clashRun)
    ∧ active.lau.line ≠ .round .clashMark := by decide +kernel

theorem witness_SendsEnd_notSending : ∀ frame n, active.lau.line ≠ .round (.sending frame n) := by
  intro frame n h; cases h

theorem witness_ReceptionsEndValidOrFailed :
    (inRound 0x1224 (some 9)).lau.line = .round .awaiting
    ∧ (onLine (.round .receiving) active).lau.line = .round .receiving
    ∧ Frame.ofBytes [0xA8] = none ∧ Frame.ofBytes (figureOf 5 1).bytes = some (figureOf 5 1)
    ∧ ((figureOf 5 1).source.toNat ≠ active.ownSlot ∧ active.intake.queue.length < 16 ∧ 16 ≤ full.intake.queue.length)
    ∧ (Frame.ofBytes { figureOf 5 1 with source := 5 }.bytes).map (fun f => f.source.toNat) = some active.ownSlot
    ∧ active.lau.line = .seek ∧ (sendingAt 9).lau.line = .round (.sending [0xA7] 9) ∧ State.reset.lau.line = .off
    ∧ (∀ frame ∈ [[(0x00 : Byte)], [0xFF], [0xA7, 0x0F]], frame ≠ []) := by
  decide +kernel

theorem witness_LinkResetIsOneStep :
    (State.reset.portIdle ∧ State.reset.sheet.node ≠ .active ∧ State.reset.sheet.node ≠ .final)
    ∧ (active.portIdle ∧ active.sheet.node = .active) ∧ (final.portIdle ∧ final.sheet.node = .final) := by decide

def ready (r : PeerRecord) (f : Frame) : State := withFrame f (withPeer 9 r active)

theorem witness_FramesDiscardedByTheirSourceOrForm :
    active.intake.queue = [] ∧ (withHold ⟨none, true⟩ active).table.hold.waiting = true
    ∧ (let f := figureOf 5 1
       (ready PeerRecord.reset f).intakeReady f [] ∧ (ready PeerRecord.reset f).rosterRole 9 ≠ .empty ∧ f.form.isSome = true
        ∧ (∀ p, f.form ≠ some (.presence p)) ∧ ((ready PeerRecord.reset f).peer 9).state = .unheard
        ∧ ((ready { heardAt 5 with state := .foreign, timer := none } f).peer 9).state = .foreign)
    ∧ (let f := { figureOf 5 1 with source := 15 }
       (ready PeerRecord.reset f).intakeReady f [] ∧ (ready PeerRecord.reset f).rosterRole 15 = .empty)
    ∧ ({ figureOf 5 1 with kind := 0 } : Frame).form = none := by
  refine ⟨rfl, rfl, ⟨⟨rfl, rfl, rfl⟩, by decide +kernel, by decide +kernel, ?_, by decide +kernel, by decide +kernel⟩,
    ⟨⟨rfl, rfl, rfl⟩, by decide +kernel⟩, by decide +kernel⟩
  intro p
  have h : ((figureOf 5 1).form.map (fun b => match b with | .presence _ => true | _ => false)) = some false := by
    decide +kernel
  intro hp
  rw [hp] at h
  simp at h

/-- The PRESENCE body of station 9 as its form check reads it. -/
def presence9 (revision : Nat) : PresenceBody :=
  { role := .shoreMeters, final := false, number := 4417, revision := revision, count := 1, mask := 2 }

theorem witness_MatchingPresenceMakesTheStationPresent :
    let f := presenceOf 3 4 3
    (ready PeerRecord.reset f).intakeReady f [] ∧ (ready PeerRecord.reset f).rosterRole 9 ≠ .empty
    ∧ f.form = some (.presence (presence9 3)) ∧ (ready PeerRecord.reset f).header? = some sheet5.header
    ∧ (presence9 3).role = (ready PeerRecord.reset f).rosterRole 9 ∧ (presence9 3).number = sheet5.header.number
    ∧ (presence9 3).revision = sheet5.header.revision
    ∧ ([none, some 0, some 7].map (fun g =>
        let r := ((ready { PeerRecord.reset with generation := g } f).peer 9)
        (r.state, decide (r.generation ≠ none ∧ r.generation ≠ some f.generation)))
      = [(.unheard, false), (.unheard, false), (.unheard, true)])
    ∧ ((ready { heardAt 5 with state := .foreign, timer := none } f).peer 9).state = .foreign := by decide +kernel

theorem witness_MismatchMakesTheStationForeign :
    let f := presenceOf 3 6 4
    ((ready (heardAt 5) f).intakeReady f [] ∧ (ready (heardAt 5) f).rosterRole 9 ≠ .empty
      ∧ f.form = some (.presence (presence9 4))
      ∧ ((ready (heardAt 5) f).peer 9).state ≠ .foreign
      ∧ ((ready { heardAt 5 with state := .foreign, timer := none } f).peer 9).state = .foreign
      ∧ (ready { heardAt 5 with state := .foreign, timer := none } f).intakeReady f [])
    ∧ ¬ (Body.presence (presence9 4)).agrees (ready (heardAt 5) f) 9 := by
  refine ⟨by decide +kernel, ?_⟩
  rintro ⟨-, h, hh, -, hr⟩
  have : h = sheet5.header := (Option.some.inj hh).symm
  subst this
  exact absurd hr (by decide)

/-- Gaps of 0, 1, 32,767, 32,768 and 65,535 from a baseline of 5, by a PRESENCE that agrees. -/
theorem witness_SequenceIsJudgedAgainstTheBaseline :
    (let f := presenceOf 3 6 3
     (ready (heardAt 5) f).intakeReady f [] ∧ (ready (heardAt 5) f).rosterRole 9 ≠ .empty
      ∧ f.form = some (.presence (presence9 3))
      ∧ ((ready (heardAt 5) f).peer 9).state = .present ∧ ((ready (heardAt 5) f).peer 9).generation = some f.generation
      ∧ ((ready (heardAt 5) f).peer 9).baseline = some 5)
    ∧ [(6 : BitVec 16), 7, 32773, 32774, 5].map (fun q => (q - 5 - 1).toNat) = [0, 1, 32767, 32768, 65535] := by
  decide +kernel

/-- The other frames agree whatever they hold, here a FIGURE. -/
theorem witness_Sequence_figure : (figureOf 6 1).form = some (.figure 1 3 2 100120 [(.opening,
      { revision := 1, raw := { quantity := 3156240, water := 0, temperature := 3650 }, sourceGsv := 3097237, sourceMask := 0 })])
    ∧ (Body.figure 1 3 2 100120 []).agrees active 9 := ⟨by decide +kernel, trivial⟩

theorem witness_Sequence_agrees : (Body.presence (presence9 3)).agrees (ready (heardAt 5) (presenceOf 3 6 3)) 9 :=
  ⟨rfl, sheet5.header, rfl, rfl, rfl⟩

def absent9 : PeerRecord := { heardAt 5 with state := .absent, timer := none }

theorem witness_NewGenerationsAndReturns :
    (let f := presenceOf 3 6 3
     (ready absent9 f).intakeReady f [] ∧ (ready absent9 f).rosterRole 9 ≠ .empty
      ∧ f.form = some (.presence (presence9 3))
      ∧ ((ready absent9 f).peer 9).state = .absent ∧ ((ready absent9 f).peer 9).generation = some f.generation)
    ∧ (let f := { presenceOf 3 6 3 with generation := 255 }
       ((ready (heardAt 5) f).peer 9).state = .present ∧ ((ready (heardAt 5) f).peer 9).generation ≠ some f.generation
        ∧ f.form = some (.presence (presence9 3))) := by decide +kernel

theorem witness_NewGenerations_agrees : (Body.presence (presence9 3)).agrees (ready absent9 (presenceOf 3 6 3)) 9 :=
  ⟨rfl, sheet5.header, rfl, rfl, rfl⟩

/-- The block of figureOf as its form check reads it. -/
def block9 (revision : Nat) : BlockBody :=
  { revision := revision, raw := { quantity := 3156240, water := 0, temperature := 3650 }, sourceGsv := 3097237, sourceMask := 0 }

def withEntries (entries : List PeerEntry) (s : State) : State := { s with table := { s.table with entries := entries } }

/-- No entry; a full table; an entry of another kind; a higher, an equal and a lower revision. -/
theorem witness_FigureFramesAreJudgedBlockByBlock :
    (let f := figureOf 5 1
     let s := ready (heardAt 4) f
     s.accepts f [] (.figure 1 3 2 100120 [(.opening, block9 1)]) ∧ (s.rosterRole 9).pointKind = some .meter
      ∧ PointKind.meter.code = 3 ∧ 1 ≤ 23 ∧ s.parcelDefined 2 = true ∧ meterFactorOk .meter 100120 = true
      ∧ blockItems .meter 2 100120 [(.opening, block9 1)] = some [result9.item]
      ∧ s.table.entries.find? (fun e => decide (e.slot = 9 ∧ e.point = 1)) = none)
    ∧ (let s := withEntries (fullEntries.filter (fun e => e.slot ≠ 9) ++ (List.range 24).map (ent 10)) (ready (heardAt 4) (figureOf 5 1))
       s.table.entries.find? (fun e => decide (e.slot = 9 ∧ e.point = 1)) = none ∧ 160 ≤ s.table.entries.length)
    ∧ [0, 1, 2].map (fun r => decide ((entry9.slots.opening.map (·.obs.revision)).getD 0 < r)) = [false, false, true] := by
  refine ⟨⟨⟨⟨rfl, rfl, rfl⟩, by decide +kernel, by decide +kernel, trivial, by decide +kernel⟩, by decide +kernel, rfl,
    by decide, by decide +kernel, by decide +kernel, by decide +kernel, by decide +kernel⟩, by decide +kernel,
    by decide +kernel⟩

/-- A station accepted in order, after a gap, as a step-back, with another generation, and back from ABSENT. -/
def heardBefore : List PeerRecord :=
  [heardAt 4, heardAt 2, heardAt 8, { heardAt 4 with generation := some 7 }, { heardAt 4 with state := .absent, timer := none }]

/-- Each of those frames is accepted, and the registry leaves the entry, or takes it with the station's others. -/
theorem witness_FigureFrames_accepted :
    heardBefore.map (fun r =>
      let s := withEntries [entry9, ent 10 0] (ready r (figureOf 5 1))
      let a := s.registered (figureOf 5 1) [] (.figure 1 3 2 100120 [(.opening, block9 1)])
      (decide ((s.peer 9).state = .present ∨ (s.peer 9).state = .absent), a.table.entries.map (·.slot), (a.peer 9).missing))
    = [(true, [9, 10], 0), (true, [9, 10], 2), (true, [10], 0), (true, [10], 0), (true, [9, 10], 0)] := by decide +kernel

theorem witness_FigureFrames_entry :
    let s := withEntries [entry9] (ready (heardAt 4) (figureOf 5 1))
    s.table.entries.find? (fun e => decide (e.slot = 9 ∧ e.point = 1)) = some entry9
    ∧ entry9.kind = .meter ∧ entry9.parcel = 2 ∧ entry9.meterFactor = 100120 ∧ entry9.meterFactor ≠ 100121 := by
  decide +kernel

def withdrawOf (sequence : BitVec 16) (point : Byte) : Frame :=
  { kind := 3, source := 9, generation := 0, sequence := sequence, body := [point, 3, 2] }

def attestOf (epoch : Byte) : Frame :=
  { kind := 4, source := 9, generation := 0, sequence := 5, body := [2, epoch, 0, 2, 0, 0, 0x01, 0x74, 0x8C, 0xB6] }

/-- Point 24 and epoch 2 fail the content check; point 1 and epoch 3 pass it. -/
theorem witness_ContentCheckAndWithdrawFrames :
    (ready (heardAt 4) (withdrawOf 5 24)).accepts (withdrawOf 5 24) [] (.withdraw 24 3 2) ∧ 23 < 24
    ∧ (withEntries [entry9] (ready (heardAt 4) (withdrawOf 5 1))).accepts (withdrawOf 5 1) [] (.withdraw 1 PointKind.meter.code 2)
    ∧ (active.rosterRole 9).pointKind = some .meter ∧ 1 ≤ 23 ∧ active.parcelDefined 2 = true
    ∧ [entry9].Pairwise (fun d e => ¬ (d.slot = e.slot ∧ d.point = e.point))
    ∧ (ready (heardAt 4) (attestOf 3)).accepts (attestOf 3) [] (.attest 2 Epoch.closing.code ⟨2, 24415414⟩)
    ∧ (attestOf 2).form = some (.attest 2 2 ⟨2, 24415414⟩) := by
  refine ⟨⟨⟨rfl, rfl, rfl⟩, by decide +kernel, by decide +kernel, trivial, by decide +kernel⟩, by decide,
    ⟨⟨rfl, rfl, rfl⟩, by decide +kernel, by decide +kernel, trivial, by decide +kernel⟩, by decide +kernel, by decide,
    by decide +kernel, by decide, ⟨⟨rfl, rfl, rfl⟩, by decide +kernel, by decide +kernel, trivial, by decide +kernel⟩,
    by decide +kernel⟩

/-- The entry a WITHDRAW frame names stays for its own removal after a gap and at a return, and is gone already after a
step-back and with another generation. -/
theorem witness_WithdrawFrames_accepted :
    heardBefore.map (fun r =>
      let s := withEntries [entry9] (ready r (withdrawOf 5 1))
      (s.registered (withdrawOf 5 1) [] (.withdraw 1 3 2)).table.entries.find? (fun e => decide (e.slot = 9 ∧ e.point = 1)))
    = [some entry9, some entry9, none, none, some entry9] := by decide +kernel

theorem witness_MergeIsOneChangeWithItsFanOut :
    let s := merging (.figure 9 1 .meter 2 100120 (some [result9])) active
    s.intake.merging = some (.figure 9 1 .meter 2 100120 (some [result9])) ∧ s.table.hold.holder = none
    ∧ s.table.entries.Pairwise (fun d e => keyBefore d.slot d.point e.slot e.point = true)
    ∧ ([result9].map (·.item.epoch)).Nodup ∧ ∀ r ∈ [result9], r.item.source.isSome = true := by decide +kernel

theorem witness_TimersAndTheirSubjects :
    (let s := withPeer 15 { heardAt 5 with timer := some 0 } active
     (s.peer 15).state = .present ∧ (s.peer 15).timer = some 0)
    ∧ (active.peer 0).timer ≠ some 0 ∧ ((withPeer 9 (heardAt 5) active).peer 9).timer = some 7500000
    ∧ (expired active).pub.presenceTimer = some 0
    ∧ ((expired active).header? = some sheet5.header ∧ (expired active).pub.republishTimer = some 0
      ∧ (expired active).eligible = [])
    ∧ State.reset.pub.presenceTimer ≠ some 0 ∧ State.reset.pub.republishTimer ≠ some 0
    ∧ active.pub.presenceTimer ≠ some 0 ∧ active.pub.republishTimer ≠ some 0
    ∧ (closed.pub.rotation = none ∧ closed.eligible.head? = some (.point 0))
    ∧ ((expired closed).pub.rotation = some (.point 0) ∧ (expired closed).eligible = [.point 0, .point 1]) := by
  decide +kernel

/-- An active node with a command waiting, that meets every invariant and takes a step. -/
def walker : State := { withNotices pending5 (withPeer 9 (heardAt 5) posted) with pending := [.intakeTakeFrame, .quiet] }

theorem witness_Invariants_pending : PendingOk walker.notices.pending := by decide +kernel
theorem witness_Invariants_idle : SheetInv walker ∧ IdleInv walker := by decide +kernel
theorem witness_Invariants_line : LineInv walker ∧ ProtectionInv walker := by decide +kernel
theorem witness_Invariants_transmit : TransmitInv walker := by decide +kernel
theorem witness_Invariants_table : TableInv walker ∧ OwnSlotInv walker := by decide +kernel
theorem witness_Invariants_counts :
    CountsInv walker ∧ CountsInv { full with balance := { full.balance with seen := [full.reading] } } :=
  ⟨⟨by decide +kernel, by decide +kernel, by decide +kernel, by decide +kernel, by decide +kernel⟩,
    ⟨by decide +kernel, by decide +kernel, by decide +kernel, by decide +kernel, by decide +kernel⟩⟩
theorem witness_Invariants_balance : BalanceInv walker := by decide +kernel
theorem witness_Invariants_hold : HoldInv walker ∧ PeersInv walker ∧ SetsDisjoint walker := by decide +kernel
theorem witness_Invariants_step : step walker = .next (next .intakeTakeFrame { walker with pending := [.quiet] }) := rfl

theorem witness_RequestsDecodeToWhatWasEncoded :
    (Instr.wellFormed (.acknowledge 8 2) = true ∧ encodeRequest (.acknowledge 8 2) = some [0x31, 8, 2])
    ∧ (isRequest (.acknowledge 8 2) = true ∧ 2 < [(0x31 : Byte), 8, 2].length)
    ∧ (Instr.wellFormed (.unknownRequest 0xFF) = true ∧ encodeRequest (.unknownRequest 0xFF) = some [0xFF])
    ∧ (active.takes ∧ ({ active with resetAsserted := true } : State).resetAsserted = true)
    ∧ (List.replicate 7 true).length < 8
    ∧ (next .identify active).sdo true [0x00] = some 0x00
    ∧ ([0x00, 0x03, 0x28, 0x36, 0x48, 0xFF] : List Byte).map paramBytes = List.replicate 6 none := by
  decide

theorem witness_FramesDecodeToWhatWasSent :
    (figureOf 5 1).body.length ≤ 61 ∧ ({ figureOf 5 1 with body := List.replicate 61 0xFF } : Frame).body.length ≤ 61
    ∧ (0x00 : Byte) ++ (0x00 : Byte) ≠ crc (figureOf 5 1).checked
    ∧ (figureOf 5 1).bytes = 0xA7 :: (figureOf 5 1).bytes.tail ∧ (0xA8 : Byte) ≠ 0xA7
    ∧ [(0xA7 : Byte), 0x19, 0, 0, 0, 62].getD 0 0 = 0xA7 ∧ 61 < fieldAt [0xA7, 0x19, 0, 0, 0, 62] 5 1
    ∧ (List.replicate 7 (0xA7 : Byte)).length ≠ 8 + 0 := by decide +kernel

end Sys2Proof.Tests
end

section
/-! PROOFS. The five stages of standardisation, the Standardisation Unit's arbiter and service, and the power-on values
(01 section 1.6, 07 section 7.4). -/

namespace Sys2Proof.Machine

/-! ### Stage 1, the gross observed volume (R4, R5) -/

theorem RawFigures.quantity_le_of_inRangeFor {kind : PointKind} {r : RawFigures} (h : r.inRangeFor kind = true) :
    r.quantity ≤ 4000000000 := by
  simp only [RawFigures.inRangeFor, Bool.and_eq_true, decide_eq_true_eq] at h
  obtain ⟨⟨⟨⟨hquantity, -⟩, -⟩, -⟩, -⟩ := h
  exact hquantity

theorem stageGov_of_ne_meter {kind : PointKind} (h : kind ≠ .meter) (factor : Nat) (r : RawFigures) :
    stageGov kind factor r = (r.quantity - r.water, decide (r.quantity < r.water)) := by
  cases kind with
  | meter => exact absurd rfl h
  | shipTank => rfl
  | shoreTank => rfl

theorem stageGov_meter (factor : Nat) (r : RawFigures) :
    stageGov .meter factor r = (divHalfUp (r.quantity * factor) 100000, false) := rfl

/-- A factor of 1.00000 leaves the quantity as it is. -/
theorem divHalfUp_mul_self (n : Nat) {d : Nat} (h : 0 < d) : divHalfUp (n * d) d = n := by
  rw [divHalfUp, Nat.mul_comm, Nat.mul_add_div h, Nat.div_eq_of_lt (Nat.div_lt_self h (by decide)), Nat.add_zero]

/-- A dividend of at most `m` divisors gives a quotient of at most `m`, since half a divisor does not reach the next. -/
theorem divHalfUp_le_of_le_mul {n m d : Nat} (hd : 0 < d) (h : n ≤ m * d) : divHalfUp n d ≤ m := by
  rw [← divHalfUp_mul_self m hd]
  exact Nat.div_le_div_right (Nat.add_le_add_right h _)

/-- Settles O20: a tank's GOV is a difference, truncated by the clamp; a meter's is a product rounded half up. -/
theorem grossObservedVolume : Obligations.GrossObservedVolume := by
  intro kind factor water r hrange
  have hquantity := RawFigures.quantity_le_of_inRangeFor hrange
  constructor
  · intro htank
    rw [stageGov_of_ne_meter htank]
    simp only [Prod.mk.injEq, decide_eq_true_eq, decide_eq_false_iff_not]
    omega
  · rintro rfl - hfactor
    have hproduct : r.quantity * factor ≤ 4400000000 * 100000 :=
      (Nat.mul_le_mul hquantity hfactor).trans (by decide)
    obtain ⟨hlow, hhigh⟩ := divHalfUp_bounds (r.quantity * factor) (d := 100000) (by decide)
    rw [stageGov_meter]
    refine ⟨hlow, hhigh, rfl, divHalfUp_le_of_le_mul (by decide) hproduct, rfl, ?_⟩
    rintro rfl
    exact divHalfUp_mul_self _ (by decide)

/-! ### Stage 2, the temperature difference (R6) -/

theorem stageDelta_of_inside {tRef temperature : Int} (hlow : -10000 ≤ temperature - tRef)
    (hhigh : temperature - tRef ≤ 10000) : stageDelta tRef temperature = (temperature - tRef, false) := by
  simp only [stageDelta, Prod.mk.injEq, decide_eq_false_iff_not]
  omega

theorem stageDelta_of_below {tRef temperature : Int} (h : temperature - tRef < -10000) :
    stageDelta tRef temperature = (-10000, true) := by
  simp only [stageDelta, Prod.mk.injEq, decide_eq_true_eq]
  omega

theorem stageDelta_of_above {tRef temperature : Int} (h : 10000 < temperature - tRef) :
    stageDelta tRef temperature = (10000, true) := by
  simp only [stageDelta, Prod.mk.injEq, decide_eq_true_eq]
  omega

/-- Temperatures in range never meet the clamp's lower end: the difference is at least −8,000. -/
theorem stageDelta_mem_range {tRef temperature : Int} (htRef : tRef ≤ 4000) (htemperature : -4000 ≤ temperature) :
    -8000 ≤ (stageDelta tRef temperature).1 ∧ (stageDelta tRef temperature).1 ≤ 10000 := by
  simp only [stageDelta]
  omega

/-! ### Stage 3, the exact N and the volume correction factor (R7, R8) -/

/-- The range of L = A·ΔT. -/
theorem linearTerm_mem_range {a : Nat} {dt : Int} (ha : a ≤ 3000) (hlow : -8000 ≤ dt) (hhigh : dt ≤ 10000) :
    -24000000 ≤ (a : Int) * dt ∧ (a : Int) * dt ≤ 30000000 := by
  have ha' : (a : Int) ≤ 3000 := by exact_mod_cast ha
  have ha0 : (0 : Int) ≤ a := Int.natCast_nonneg a
  constructor <;> nlinarith only [ha', ha0, hlow, hhigh]

/-- The range of Q = B·ΔT². -/
theorem quadraticTerm_mem_range {b : Nat} {dt m : Int} (hb : b ≤ 2000) (hlow : -m ≤ dt) (hhigh : dt ≤ m) :
    0 ≤ (b : Int) * dt * dt ∧ (b : Int) * dt * dt ≤ 2000 * (m * m) := by
  have hb' : (b : Int) ≤ 2000 := by exact_mod_cast hb
  have hb0 : (0 : Int) ≤ b := Int.natCast_nonneg b
  have hsquare : dt * dt ≤ m * m := by nlinarith only [hlow, hhigh]
  rw [mul_assoc]
  exact ⟨mul_nonneg hb0 (mul_self_nonneg dt), mul_le_mul hb' hsquare (mul_self_nonneg dt) (by decide)⟩

/-- The range of N. Its upper end is met at ΔT = −8,000; above a difference of 0 the linear term lowers N. -/
theorem stageN_mem_range {a b : Nat} {dt : Int} (ha : a ≤ 3000) (hb : b ≤ 2000) (hlow : -8000 ≤ dt)
    (hhigh : dt ≤ 10000) : 7000000000000 ≤ stageN a b dt ∧ stageN a b dt ≤ 12528000000000 := by
  obtain ⟨hl, hl'⟩ := linearTerm_mem_range ha hlow hhigh
  unfold stageN
  rcases le_total 0 dt with hdt | hdt
  · obtain ⟨hq, hq'⟩ := quadraticTerm_mem_range (m := 10000) hb (by omega) hhigh
    have hl0 : 0 ≤ (a : Int) * dt := mul_nonneg (Int.natCast_nonneg a) hdt
    omega
  · obtain ⟨hq, hq'⟩ := quadraticTerm_mem_range (m := 8000) hb hlow (by omega)
    omega

/-- The unclamped VCF of a non-negative N: the quotient that R8's rounding bounds fix, and what the clamp makes of it. -/
theorem stageVcf_spec {n : Int} (hn : 0 ≤ n) :
    ∃ v : Nat, 100000000 * (v : Int) ≤ n + 50000000 ∧ n + 50000000 < 100000000 * ((v : Int) + 1)
      ∧ (v < 80000 → stageVcf n = (80000, true)) ∧ (120000 < v → stageVcf n = (120000, true))
      ∧ (80000 ≤ v ∧ v ≤ 120000 → stageVcf n = (v, false)) := by
  refine ⟨((n + 50000000) / 100000000).toNat, by omega, by omega, ?_⟩
  simp only [stageVcf, Prod.mk.injEq, decide_eq_true_eq, decide_eq_false_iff_not]
  omega

/-- Settles O21: the difference by its three cases, N by the ranges of its two terms, the VCF by its quotient. -/
theorem temperatureDifferenceAndVcf : Obligations.TemperatureDifferenceAndVcf := by
  constructor
  · intro tRef temperature dt
    exact ⟨fun ⟨hlow, hhigh⟩ => stageDelta_of_inside hlow hhigh, stageDelta_of_below, stageDelta_of_above,
      by omega⟩
  · intro a b tRef temperature ha hb _ htRef htemperature _ dt l q n
    obtain ⟨hlow, hhigh⟩ : -8000 ≤ dt ∧ dt ≤ 10000 := stageDelta_mem_range htRef htemperature
    obtain ⟨hl, hl'⟩ : -24000000 ≤ l ∧ l ≤ 30000000 := linearTerm_mem_range ha hlow hhigh
    obtain ⟨hq, hq'⟩ : 0 ≤ q ∧ q ≤ 2000 * (10000 * 10000) := quadraticTerm_mem_range hb (by omega) hhigh
    obtain ⟨hn, hn'⟩ : 7000000000000 ≤ n ∧ n ≤ 12528000000000 := stageN_mem_range ha hb hlow hhigh
    obtain ⟨v, hv, hv', hclamp⟩ := stageVcf_spec (n := n) (by omega)
    exact ⟨rfl, by omega, hl', hq, hq', hn, hn', v, hv, hv', by omega, by omega, hclamp⟩

/-! ### Stages 4 and 5, the gross standard volume and the mass (R9, R10) -/

/-- What saturation at 4,294,967,295 makes of a rounded result. -/
theorem saturated_max32 (v : Nat) :
    (v ≤ 4294967295 → (min max32 v, decide (max32 < v)) = (v, false))
    ∧ (4294967295 < v → (min max32 v, decide (max32 < v)) = (4294967295, true)) :=
  ⟨fun h => Prod.ext (Nat.min_eq_right h) (decide_eq_false (Nat.not_lt.2 h)),
    fun h => Prod.ext (Nat.min_eq_left (Nat.le_of_lt h)) (decide_eq_true h)⟩

theorem stageGsv_spec (gov vcf : Nat) :
    ∃ v : Nat, 100000 * v ≤ gov * vcf + 50000 ∧ gov * vcf + 50000 < 100000 * (v + 1)
      ∧ (v ≤ 4294967295 → stageGsv gov vcf = (v, false))
      ∧ (4294967295 < v → stageGsv gov vcf = (4294967295, true)) := by
  obtain ⟨hlow, hhigh⟩ := divHalfUp_bounds (gov * vcf) (d := 100000) (by decide)
  exact ⟨_, hlow, hhigh, saturated_max32 _⟩

theorem stageMass_spec (gsv d : Nat) :
    ∃ v : Nat, 10000 * v ≤ gsv * d + 5000 ∧ gsv * d + 5000 < 10000 * (v + 1)
      ∧ (v ≤ 4294967295 → stageMass gsv d = (v, false))
      ∧ (4294967295 < v → stageMass gsv d = (4294967295, true)) := by
  obtain ⟨hlow, hhigh⟩ := divHalfUp_bounds (gsv * d) (d := 10000) (by decide)
  exact ⟨_, hlow, hhigh, saturated_max32 _⟩

theorem stageGsv_le (gov vcf : Nat) : (stageGsv gov vcf).1 ≤ 4294967295 := Nat.min_le_left ..

theorem stageMass_le (gsv d : Nat) : (stageMass gsv d).1 ≤ 4294967295 := Nat.min_le_left ..

theorem stageGsv_of_saturated {gov vcf : Nat} (h : (stageGsv gov vcf).2 = true) :
    (stageGsv gov vcf).1 = 4294967295 := by
  have hlt : max32 < divHalfUp (gov * vcf) 100000 := of_decide_eq_true h
  exact Nat.min_eq_left hlt.le

/-- The mass of the largest volume saturates at any density above 1.0000. -/
theorem stageMass_of_max32 {d : Nat} (h : 10000 < d) : stageMass 4294967295 d = (4294967295, true) := by
  obtain ⟨v, -, hhigh, -, hsaturated⟩ := stageMass_spec 4294967295 d
  exact hsaturated (by omega)

/-- Settles O22: both stages round half up and saturate by the same rule. -/
theorem grossStandardVolumeAndMass : Obligations.GrossStandardVolumeAndMass := by
  intro gov vcf d hgov hvcf _ _ gsv mass
  refine ⟨Nat.mul_le_mul hgov hvcf, stageGsv_spec gov vcf, stageGsv_le gov vcf, stageMass_spec gsv.1 d,
    stageMass_le gsv.1 d, fun hsaturated hd => ?_⟩
  have hgsv : gsv.1 = 4294967295 := stageGsv_of_saturated hsaturated
  have hmass : stageMass gsv.1 d = (4294967295, true) := hgsv ▸ stageMass_of_max32 hd
  exact hmass

/-! ### The arbiter (R19) -/

theorem exec_stuGrant (s : State) : exec .stuGrant s = .next { s with stu := s.stu.grant } := rfl

theorem Stu.grant_of_serving {u : Stu} (h : u.inService.isSome = true) : u.grant = u := by
  simp [Stu.grant, h]

theorem Stu.grant_of_nothing_waiting {u : Stu} (hport : u.portWaiting = none) (hintake : u.intakeWaiting = none) :
    u.grant = u := by
  simp [Stu.grant, hport, hintake]

/-- The POST is served when it waits alone, and on a tie after the Frame Intake. -/
theorem Stu.grant_port {u : Stu} {mine : List StuItem} (hfree : u.inService = none) (hport : u.portWaiting = some mine)
    (hturn : u.intakeWaiting = none ∨ u.lastServed = .intake) : u.grant = u.serve .port mine := by
  cases hintake : u.intakeWaiting with
  | none => simp [Stu.grant, hfree, hport, hintake]
  | some theirs =>
    have hlast : u.lastServed = .intake := hturn.resolve_left (by simp [hintake])
    simp [Stu.grant, hfree, hport, hintake, hlast]

/-- The Frame Intake is served when it waits alone, and on a tie after the POST. -/
theorem Stu.grant_intake {u : Stu} {theirs : List StuItem} (hfree : u.inService = none)
    (hintake : u.intakeWaiting = some theirs) (hturn : u.portWaiting = none ∨ u.lastServed = .port) :
    u.grant = u.serve .intake theirs := by
  cases hport : u.portWaiting with
  | none => simp [Stu.grant, hfree, hport, hintake]
  | some mine =>
    have hlast : u.lastServed = .port := hturn.resolve_left (by simp [hport])
    simp [Stu.grant, hfree, hport, hintake, hlast]

/-! ### The service of a request (R3, R15, R18) -/

theorem exec_stuObservationComputed (s : State) : exec .stuObservationComputed s = .next s.stuComputed := rfl

theorem State.parcelDef?_of_sheet {s : State} {sh : Sheet} (h : s.sheet.sheet = some sh) (p : Nat) :
    s.parcelDef? p = sh.parcels.find? (fun d => decide (d.number = p)) := by
  simp [State.parcelDef?, h]

/-- The STU while it serves a requester: what is still to do, and the results so far. -/
def State.withService (r : Requester) (todo : List StuItem) (results : List StuResult) (s : State) : State :=
  { s with stu := { s.stu with inService := some { requester := r, todo := todo, results := results } } }

/-- One observation computed: its result joins the results, which are handed over when it was the last. -/
theorem State.stuComputed_of_service {s : State} {r : Requester} {item : StuItem} {rest : List StuItem}
    {results : List StuResult} {d : ParcelDef}
    (hservice : s.stu.inService = some { requester := r, todo := item :: rest, results := results })
    (hparcel : s.parcelDef? item.parcel = some d) :
    s.stuComputed =
      if rest = [] then
        (s.withService r rest (results ++ [serveItem d item])).handResults r (results ++ [serveItem d item])
      else s.withService r rest (results ++ [serveItem d item]) := by
  simp [State.stuComputed, hservice, hparcel, State.withService]

/-- A request whose observations are all served waits to be stored. -/
theorem State.stuComputed_of_todo_nil {s : State} {v : StuService} (hservice : s.stu.inService = some v)
    (htodo : v.todo = []) : s.stuComputed = s := by
  obtain ⟨r, todo, results⟩ := v
  obtain rfl : todo = [] := htodo
  simp [State.stuComputed, hservice]

theorem State.handResults_to_post (results : List StuResult) (s : State) :
    s.handResults .port results = { s with table := { s.table with postResult := results.head? } } := rfl

theorem State.handResults_to_figure {s : State} {slot point parcel factor : Nat} {kind : PointKind}
    {old : Option (List StuResult)} (h : s.intake.merging = some (.figure slot point kind parcel factor old))
    (results : List StuResult) :
    s.handResults .intake results =
      { s with intake := { s.intake with merging := some (.figure slot point kind parcel factor (some results)) } } := by
  simp [State.handResults, h]

/-- Only a peer's block has a source GSV to differ from. -/
theorem serveItem_mismatch_iff (d : ParcelDef) (item : StuItem) :
    (serveItem d item).mismatch = true ↔ ∃ src ∈ item.source, src.2.gsv ≠ (serveItem d item).std.gsv := by
  cases h : item.source with
  | none => simp [serveItem, h]
  | some src => simp [serveItem, h, ne_comm]

/-- Settles O19: the arbiter by its four cases, the service by whether the observation was the last. -/
theorem stuGrantsAndServes : Obligations.StuGrantsAndServes := by
  refine ⟨fun s mine theirs => ?_, fun s r item rest results sh d hservice hsheet hparcel => ?_,
    fun s v hservice htodo => ?_⟩
  · simp only [exec_stuGrant]
    refine ⟨fun hserving => ?_, fun hport hintake => ?_, fun hfree hport hturn => ?_, fun hfree hintake hturn => ?_⟩
    · rw [Stu.grant_of_serving hserving]
    · rw [Stu.grant_of_nothing_waiting hport hintake]
    · rw [Stu.grant_port hfree hport hturn]; rfl
    · rw [Stu.grant_intake hfree hintake hturn]; rfl
  · have hcomputed := State.stuComputed_of_service hservice ((State.parcelDef?_of_sheet hsheet _).trans hparcel)
    refine ⟨serveItem d item, rfl, rfl, rfl, rfl, rfl, rfl, rfl, rfl, rfl, serveItem_mismatch_iff d item,
      fun hmore => ?_, ?_, ?_⟩
    · rw [exec_stuObservationComputed, hcomputed, if_neg hmore]
      rfl
    · rintro rfl rfl
      rw [exec_stuObservationComputed, hcomputed, if_pos rfl, State.handResults_to_post]
      rfl
    · rintro rfl rfl slot point kind parcel factor old hmerging
      rw [exec_stuObservationComputed, hcomputed, if_pos rfl,
        State.handResults_to_figure (s := s.withService _ _ _) hmerging]
      rfl
  · have hserving : s.stu.inService.isSome = true := by simp [hservice]
    rw [exec_stuObservationComputed, State.stuComputed_of_todo_nil hservice htodo, exec_stuGrant,
      Stu.grant_of_serving hserving]
    exact ⟨rfl, rfl⟩

/-! ### The power-on reset (R20, R45, R72, R105, R110, R115, R130, R142, R155, R166) -/

theorem exec_powerOnReset (byInput : Bool) (s : State) : exec (.powerOnReset byInput) s = .next (s.powerOn byInput) := rfl

/-- R155 enables every kind of notice: 0x7FF is the mask of all eleven. -/
theorem NoticeUnit.reset_enables : NoticeUnit.reset.enables = 0x7FF#11 := by decide

theorem State.noticeLow_of_no_notice {s : State} (h : s.notices.pending = []) : s.noticeLow = false := by
  simp [State.noticeLow, h]

theorem Lau.lde_reset : Lau.reset.lde = false := rfl

theorem Lau.ltx_reset : Lau.reset.ltx = false := rfl

theorem State.noticeLow_powerOn (byInput : Bool) (s : State) : (s.powerOn byInput).noticeLow = false :=
  State.noticeLow_of_no_notice rfl

/-- Settles O3: each block of `State.powerOn` is its reset value, and the outputs read those blocks. -/
theorem powerOnValues : Obligations.PowerOnValues := by
  intro byInput s
  refine ⟨s.powerOn byInput, exec_powerOnReset byInput s, ?_⟩
  have hnotices : (s.powerOn byInput).notices =
      { pending := [], enables := 0x7FF#11, edges := List.replicate 8 .worse, watch := List.replicate 16 none } := by
    rw [← NoticeUnit.reset_enables]
    rfl
  exact ⟨rfl, rfl, rfl, rfl, rfl, rfl, rfl, rfl, rfl, hnotices, rfl, rfl, rfl, rfl, Lau.lde_reset, Lau.ltx_reset,
    s.noticeLow_powerOn byInput⟩

end Sys2Proof.Machine
end

section
/-! PROOFS. The ledger: the part of a state that the invariants of the sheet, the table, the own slot, the hold, the peers and
the attest sets read, and the changes a step can make to it (02 sections 2.1, 2.2, 2.5; 06 section 6.3; 04 section 4.1). -/

namespace Sys2Proof.Machine

/-! ### The ledger: the part of a state that the table, the hold, the peers and the sets stand in -/

/-- The key of an entry (R24). -/
def PeerEntry.key (e : PeerEntry) : Nat × Nat := (e.slot, e.point)

/-- Table order of keys (R25). -/
abbrev keyLt (a b : Nat × Nat) : Prop := keyBefore a.1 a.2 b.1 b.2 = true

/-- A frame being merged, whether its results are back or not. -/
def Merge.withoutResults : Merge → Merge
  | .figure slot point kind parcel factor _ => .figure slot point kind parcel factor none
  | .comparison slot parcel epoch theirs => .comparison slot parcel epoch theirs

/-- The two sets of an attest record, with its parcel and epoch. -/
def AttestRecord.setsOnly (r : AttestRecord) : AttestRecord := { r with summary := none, changedSince := false }

/-- What the invariants of the sheet, the table, the own slot, the hold, the peers and the attest sets read of a state. -/
structure Ledger where
  sheet : SheetStore
  busy : Option LongOp
  keys : List (Nat × Nat)
  hold : Hold
  queue : List Frame
  merging : Option Merge
  peers : List PeerRecord
  sets : List AttestRecord

def State.ledger (s : State) : Ledger :=
  { sheet := s.sheet, busy := s.port.busy, keys := s.table.entries.map PeerEntry.key, hold := s.table.hold
    queue := s.intake.queue, merging := s.intake.merging.map Merge.withoutResults, peers := s.peers
    sets := s.attest.map AttestRecord.setsOnly }

def Ledger.running (L : Ledger) : Bool := decide (L.sheet.node = .active ∨ L.sheet.node = .final)

def Ledger.ownSlot (L : Ledger) : Nat := ((L.sheet.sheet.map (·.header)).map (·.ownSlot)).getD 0

theorem State.ledger_running (s : State) : s.ledger.running = s.running := rfl

theorem State.ledger_ownSlot (s : State) : s.ledger.ownSlot = s.ownSlot := rfl

/-! ### What the shared operations leave of the ledger -/

@[simp] theorem State.raise_ledger (k : NoticeKind) (j : Nat) (s : State) : (s.raise k j).ledger = s.ledger := rfl

@[simp] theorem State.raiseIf_ledger (c : Bool) (k : NoticeKind) (j : Nat) (s : State) :
    (s.raiseIf c k j).ledger = s.ledger := by cases c <;> rfl

@[simp] theorem State.raiseWatch_ledger (slot point : Nat) (s : State) : (s.raiseWatch slot point).ledger = s.ledger := rfl

@[simp] theorem State.requestAll_ledger (ps : List Nat) (s : State) : (s.requestAll ps).ledger = s.ledger := rfl

@[simp] theorem State.request_ledger (p : Nat) (s : State) : (s.request p).ledger = s.ledger := rfl

@[simp] theorem State.give_ledger (sub : Subject) (s : State) : (s.give sub).ledger = s.ledger := rfl

@[simp] theorem State.count_ledger (f : IntakeCounters → IntakeCounters) (s : State) : (s.count f).ledger = s.ledger := rfl

@[simp] theorem State.countMalformed_ledger (s : State) : s.countMalformed.ledger = s.ledger := rfl

@[simp] theorem State.answer_ledger (code : ResultCode) (data : List Byte) (s : State) :
    (s.answer code data).ledger = s.ledger := rfl

@[simp] theorem State.answerCode_ledger (code : ResultCode) (s : State) : (s.answerCode code).ledger = s.ledger := rfl

@[simp] theorem State.accept_ledger (op : LongOp) (s : State) :
    (s.accept op).ledger = { s.ledger with busy := some op } := rfl

@[simp] theorem State.complete_ledger (code : ResultCode) (s : State) :
    (s.complete code).ledger = { s.ledger with busy := none } := rfl

@[simp] theorem State.newSelection_ledger (s : State) : s.newSelection.ledger = s.ledger := rfl

@[simp] theorem markAttest_setsOnly (p : Nat) (e : Epoch) (rs : List AttestRecord) :
    (markAttest p e rs).map AttestRecord.setsOnly = rs.map AttestRecord.setsOnly := by
  rw [markAttest, List.map_map]
  refine List.map_congr_left fun r _ => ?_
  simp only [Function.comp]
  split <;> rfl

theorem foldl_markAttest_setsOnly (p : Nat) (es : List Epoch) (rs : List AttestRecord) :
    (es.foldl (fun rs e => markAttest p e rs) rs).map AttestRecord.setsOnly = rs.map AttestRecord.setsOnly := by
  induction es generalizing rs with
  | nil => rfl
  | cons e es ih => rw [List.foldl_cons, ih, markAttest_setsOnly]

@[simp] theorem State.markEpochs_ledger (p : Nat) (es : List Epoch) (s : State) :
    (s.markEpochs p es).ledger = s.ledger := by
  simp only [State.ledger, State.markEpochs, foldl_markAttest_setsOnly]

@[simp] theorem State.writePeer_ledger (slot : Nat) (changed : Bool) (r : PeerRecord) (s : State) :
    (s.writePeer slot changed r).ledger = { s.ledger with peers := s.peers.set slot r } := by
  simp [State.ledger]

@[simp] theorem State.setPeer_ledger (slot : Nat) (r : PeerRecord) (s : State) :
    (s.setPeer slot r).ledger = { s.ledger with peers := s.peers.set slot r } := by
  simp [State.setPeer]

@[simp] theorem State.updatePeer_ledger (slot : Nat) (f : PeerRecord → PeerRecord) (s : State) :
    (s.updatePeer slot f).ledger = { s.ledger with peers := s.peers.set slot (f (s.peer slot)) } := by
  simp [State.updatePeer]

/-! ### What the registry and the content check do to the ledger -/

/-- A silence timer runs exactly while its station is PRESENT (R119). -/
abbrev PeerRecord.TimerOk (r : PeerRecord) : Prop := r.timer.isSome = true ↔ r.state = .present

/-- At most the record of one slot is written, with its timer running exactly while its station is PRESENT. -/
def PeerWritten (slot : Nat) (before after : List PeerRecord) : Prop :=
  after = before ∨ ∃ r : PeerRecord, after = before.set slot r
    ∧ ((before.getD slot PeerRecord.reset).TimerOk → r.TimerOk)

/-- What the Peer Registry can do for a frame of a slot (R116 to R121): entries go, the slot leaves the sets, its record is
written. -/
inductive Ledger.Heard (slot : Nat) (L : Ledger) : Ledger → Prop
  | intro {keys : List (Nat × Nat)} {sets : List AttestRecord} {peers : List PeerRecord}
      (hkeys : keys.Sublist L.keys) (hsets : sets = L.sets ∨ sets = dropMember slot L.sets)
      (hpeers : PeerWritten slot L.peers peers) :
      Ledger.Heard slot L { L with keys := keys, sets := sets, peers := peers }

/-- What the content check and the route can do for a frame of a slot (R113): entries go, a FIGURE frame goes to the STU
where its key is held or there is room for it, or the Frame Intake takes the hold for an ATTEST frame. -/
inductive Ledger.Routed (slot : Nat) (L : Ledger) : Ledger → Prop
  | removed {keys : List (Nat × Nat)} (hkeys : keys.Sublist L.keys) : Ledger.Routed slot L { L with keys := keys }
  | toStu {point parcel factor : Nat} {kind : PointKind} (hpoint : point < 24)
      (hroom : (slot, point) ∉ L.keys → L.keys.length < 160) :
      Ledger.Routed slot L { L with merging := some (.figure slot point kind parcel factor none) }
  | toComparison {parcel : Nat} {epoch : Epoch} {theirs : Summary} :
      Ledger.Routed slot L { L with
        merging := some (.comparison slot parcel epoch theirs), hold := { L.hold with holder := some .intake } }

theorem PeerWritten.refl (slot : Nat) (peers : List PeerRecord) : PeerWritten slot peers peers := .inl rfl

theorem PeerWritten.set {slot : Nat} {peers : List PeerRecord} {r : PeerRecord}
    (h : (peers.getD slot PeerRecord.reset).TimerOk → r.TimerOk) : PeerWritten slot peers (peers.set slot r) :=
  .inr ⟨r, rfl, h⟩

theorem Ledger.Heard.refl (slot : Nat) (L : Ledger) : L.Heard slot L :=
  .intro (.refl _) (.inl rfl) (.refl slot _)

theorem Ledger.Routed.refl (slot : Nat) (L : Ledger) : L.Routed slot L := .removed (.refl _)

/-- One command's, or one bit time's, change to the ledger, with what the change rests on. A power-on reset is apart. -/
inductive Ledger.Step (L : Ledger) : Ledger → Prop
  | same : L.Step L
  | sheetBegun {h : Header} (hstate : L.running = false) (hbusy : L.busy = none) (hrange : h.inRange = true) :
      L.Step { L with sheet :=
        { node := .loading, reason := 0
          sheet := some { header := h, parcels := [], roster := List.replicate Config.linkSlots .empty, points := [] } } }
  | defined {f : Sheet → Sheet} (hstate : L.sheet.node = .loading) (hbusy : L.busy = none)
      (hok : ∀ sh, SheetOk sh → SheetOk (f sh)) :
      L.Step { L with sheet := { L.sheet with sheet := L.sheet.sheet.map f } }
  | validated {node : NodeState} {reason : Nat} {sh : Sheet} (hbusy : L.busy = some .sheetEnd)
      (hsheet : L.sheet.sheet = some sh) (hnode : node = .loaded ∨ node = L.sheet.node) :
      L.Step { L with busy := none, sheet := { L.sheet with node := node, reason := reason } }
  | started {sets : List AttestRecord} {sh : Sheet} (hstate : L.sheet.node = .loaded) (hbusy : L.busy = none)
      (hsheet : L.sheet.sheet = some sh) (hsets : ∀ r ∈ sets, r.matching = 0 ∧ r.diverging = 0) :
      L.Step { L with sheet := { L.sheet with node := .active }, sets := sets }
  | accepted {op : LongOp} (hbusy : L.busy = none)
      (hstate : if op = .sheetEnd then L.sheet.node = .loading else L.running = true)
      (hop : isAttest (some op) = false) : L.Step { L with busy := some op }
  | attestAccepted {p : Nat} {e : Epoch} (hbusy : L.busy = none) (hstate : L.running = true) :
      L.Step { L with busy := some (.attest p e), hold := L.hold.requestByAttest L.merging.isSome }
  | completed (hbusy : isAttest L.busy = false) : L.Step { L with busy := none }
  | finalised (hbusy : L.busy = some .finalise) :
      L.Step { L with busy := none, sheet := { L.sheet with node := .final } }
  | restarted {sets : List AttestRecord} (hbusy : L.busy = some .restart)
      (hsets : ∀ r ∈ sets, r.matching = 0 ∧ r.diverging = 0) :
      L.Step { L with busy := none, sheet := { L.sheet with node := .active }, sets := sets }
  | holdSet (hwaiting : L.hold.waiting = true) (hholder : L.hold.holder = none) (hmerging : L.merging = none) :
      L.Step { L with hold := { holder := some .attestation, waiting := false } }
  | scanned {p : Nat} {e : Epoch} (hbusy : L.busy = some (.attest p e)) (hholder : L.hold.holder = some .attestation) :
      L.Step { L with busy := none, hold := L.hold.release }
  | linkReset (hbusy : L.busy = none) (hstate : L.running = true) :
      L.Step { L with queue := [], merging := none, hold := Hold.clear, peers := L.peers.map PeerRecord.unheard }
  | queued {f : Frame} (hsource : f.source.toNat ≠ L.ownSlot) : L.Step { L with queue := L.queue ++ [f] }
  | taken {f : Frame} {rest : List Frame} {M N : Ledger} (hqueue : L.queue = f :: rest)
      (hhold : L.hold = Hold.clear) (hmerging : L.merging = none)
      (hheard : ({ L with queue := rest } : Ledger).Heard f.source.toNat M) (hrouted : M.Routed f.source.toNat N) : L.Step N
  | merged {slot point parcel factor : Nat} {kind : PointKind} {keys : List (Nat × Nat)} {peers : List PeerRecord}
      (hmerging : L.merging = some (.figure slot point kind parcel factor none)) (hholder : L.hold.holder = none)
      (hmem : ∀ k ∈ keys, k = (slot, point) ∨ k ∈ L.keys) (hsorted : L.keys.Pairwise keyLt → keys.Pairwise keyLt)
      (hlength : L.keys.Pairwise keyLt → keys.length = if (slot, point) ∈ L.keys then L.keys.length else L.keys.length + 1)
      (hpeers : PeerWritten slot L.peers peers) : L.Step { L with merging := none, keys := keys, peers := peers }
  | compared {slot p : Nat} {e : Epoch} {theirs : Summary} {equal : Bool}
      (hmerging : L.merging = some (.comparison slot p e theirs)) (hholder : L.hold.holder = some .intake) :
      L.Step { L with
        sets := modifyAttest p e (fun r => (r.compared slot equal).setsOnly) L.sets, hold := L.hold.release, merging := none }
  | silenced {slot : Nat} {peers : List PeerRecord} (hpresent : (L.peers.getD slot PeerRecord.reset).state = .present)
      (hpeers : PeerWritten slot L.peers peers) : L.Step { L with peers := peers }
  | ticked : L.Step { L with peers := L.peers.map (fun r => { r with timer := tickTimer r.timer }) }

/-! ### Table order (R24, R25) -/

theorem keyLt_trans {a b c : Nat × Nat} (hab : keyLt a b) (hbc : keyLt b c) : keyLt a c := by
  rw [keyLt, keyBefore_iff] at *
  omega

theorem keyLt_irrefl (a : Nat × Nat) : ¬ keyLt a a := by
  rw [keyLt, keyBefore_iff]
  omega

/-- Two keys are one, or one stands before the other. -/
theorem keyLt_of_not {a b : Nat × Nat} (hne : b ≠ a) (hlt : ¬ keyLt a b) : keyLt b a := by
  rw [keyLt, keyBefore_iff] at *
  have : ¬ (b.1 = a.1 ∧ b.2 = a.2) := fun h => hne (Prod.ext h.1 h.2)
  omega

theorem isEntry_key {e x : PeerEntry} : isEntry e.slot e.point x = true ↔ x.key = e.key := by
  simp [isEntry_iff, PeerEntry.key]

/-- The keys of a table after an entry is put in: its own, and those there were. -/
theorem mem_keys_insertEntry {e : PeerEntry} {l : List PeerEntry} {k : Nat × Nat}
    (h : k ∈ (insertEntry e l).map PeerEntry.key) : k = e.key ∨ k ∈ l.map PeerEntry.key := by
  obtain ⟨x, hx, rfl⟩ := List.mem_map.1 h
  by_cases hkey : x.key = e.key
  · exact .inl hkey
  · refine .inr (List.mem_map_of_mem ((mem_insertEntry_of_ne ?_).1 hx))
    exact Bool.eq_false_iff.2 (mt isEntry_key.1 hkey)

/-- An entry joins at its place in table order, or takes the place of the one of its key. -/
theorem insertEntry_sorted {e : PeerEntry} {l : List PeerEntry} (h : (l.map PeerEntry.key).Pairwise keyLt) :
    ((insertEntry e l).map PeerEntry.key).Pairwise keyLt := by
  induction l with
  | nil => simp [insertEntry]
  | cons x xs ih =>
    obtain ⟨hx, hxs⟩ := List.pairwise_cons.1 h
    unfold insertEntry
    split
    case isTrue hkey =>
      rw [isEntry_key] at hkey
      exact List.pairwise_cons.2 ⟨hkey ▸ hx, hxs⟩
    case isFalse hkey =>
      rw [isEntry_key] at hkey
      split
      case isTrue hbefore =>
        refine List.pairwise_cons.2 ⟨fun k hk => ?_, h⟩
        rcases List.mem_cons.1 hk with rfl | hk
        · exact hbefore
        · exact keyLt_trans (a := e.key) (b := x.key) hbefore (hx k hk)
      case isFalse hbefore =>
        refine List.pairwise_cons.2 ⟨fun k hk => ?_, ih hxs⟩
        rcases mem_keys_insertEntry hk with rfl | hk
        · exact keyLt_of_not hkey hbefore
        · exact hx k hk

theorem insertEntry_length {e : PeerEntry} {l : List PeerEntry} (h : (l.map PeerEntry.key).Pairwise keyLt) :
    (insertEntry e l).length = if e.key ∈ l.map PeerEntry.key then l.length else l.length + 1 := by
  induction l with
  | nil => simp [insertEntry]
  | cons x xs ih =>
    obtain ⟨hx, hxs⟩ := List.pairwise_cons.1 h
    unfold insertEntry
    split
    case isTrue hkey =>
      rw [isEntry_key] at hkey
      simp [hkey]
    case isFalse hkey =>
      rw [isEntry_key] at hkey
      split
      case isTrue hbefore =>
        have hnot : e.key ∉ xs.map PeerEntry.key := fun hmem =>
          keyLt_irrefl _ (keyLt_trans (a := e.key) (b := x.key) hbefore (hx _ hmem))
        rw [if_neg (by rw [List.map_cons, List.mem_cons]; exact not_or.2 ⟨Ne.symm hkey, hnot⟩)]
        rfl
      case isFalse hbefore =>
        simp only [List.length_cons, ih hxs, List.map_cons, List.mem_cons, Ne.symm hkey, false_or]
        split <;> rfl

theorem entry?_eq_none_iff {t : FigureTable} {slot point : Nat} :
    t.entry? slot point = none ↔ (slot, point) ∉ t.entries.map PeerEntry.key := by
  simp [FigureTable.entry?, isEntry, PeerEntry.key]

theorem entry?_key {t : FigureTable} {slot point : Nat} {e : PeerEntry} (h : t.entry? slot point = some e) :
    e ∈ t.entries ∧ e.slot = slot ∧ e.point = point :=
  ⟨List.mem_of_find?_eq_some h, isEntry_iff.1 (List.find?_some h)⟩

end Sys2Proof.Machine
end

section
/-! PROOFS. What each command does to the ledger, command by command, and with that every step. -/

namespace Sys2Proof.Machine

/-! ### The registry and the content check -/

@[simp] theorem markRemoved_setsOnly (gone : List PeerEntry) (rs : List AttestRecord) :
    (markRemoved gone rs).map AttestRecord.setsOnly = rs.map AttestRecord.setsOnly := by
  rw [markRemoved, List.map_map]
  refine List.map_congr_left fun r _ => ?_
  simp only [Function.comp]
  split <;> rfl

theorem dropMember_setsOnly (slot : Nat) (rs : List AttestRecord) :
    (dropMember slot rs).map AttestRecord.setsOnly = dropMember slot (rs.map AttestRecord.setsOnly) := by
  simp [dropMember, AttestRecord.setsOnly]

/-- A removal takes entries from the table; of the rest of the ledger it changes nothing. -/
theorem State.removeEntries_ledger (gone : List PeerEntry) (s : State) :
    ∃ keys, keys.Sublist s.ledger.keys ∧ (s.removeEntries gone).ledger = { s.ledger with keys := keys } := by
  unfold State.removeEntries
  split
  · exact ⟨_, .refl _, rfl⟩
  · exact ⟨(s.table.entries.filter (fun e => !gone.any (fun g => isEntry g.slot g.point e))).map PeerEntry.key,
      List.Sublist.map PeerEntry.key List.filter_sublist, by simp [State.ledger, FigureTable.changed]⟩

theorem State.dropStation_heard (slot : Nat) (s : State) : s.ledger.Heard slot (s.dropStation slot).ledger := by
  obtain ⟨keys, hkeys, hledger⟩ :=
    State.removeEntries_ledger (s.table.entries.filter (fun e => e.slot = slot)) s
  have hdropped : (s.dropStation slot).ledger =
      { (s.removeStation slot).ledger with sets := dropMember slot (s.removeStation slot).ledger.sets } := by
    simp [State.ledger, State.dropStation, dropMember_setsOnly]
  rw [hdropped, State.removeStation, hledger]
  exact .intro hkeys (.inr rfl) (.refl slot _)

/-- After the registry has removed what it removes, the record of the slot is written. -/
theorem Ledger.Heard.writePeer {slot : Nat} {L : Ledger} {s : State} {changed : Bool} {r : PeerRecord}
    (h : L.Heard slot s.ledger) (hpeers : s.peers = L.peers) (hr : (s.peer slot).TimerOk → r.TimerOk) :
    L.Heard slot (s.writePeer slot changed r).ledger := by
  generalize hM : s.ledger = M at h
  rw [State.writePeer_ledger, hM, hpeers]
  cases h with
  | intro hkeys hsets _ => exact .intro hkeys hsets (.set (by simpa [State.peer, hpeers] using hr))

theorem State.mismatched_heard (slot : Nat) (p : PresenceBody) (s : State) :
    s.ledger.Heard slot (s.mismatched slot p).ledger := by
  unfold State.mismatched
  extract_lets counted dropped
  have hcounted : counted.ledger = s.ledger := State.count_ledger _ s
  split
  · exact Ledger.Heard.writePeer (hcounted ▸ .refl slot _) rfl id
  · rw [State.raise_ledger]
    exact Ledger.Heard.writePeer (hcounted ▸ counted.dropStation_heard slot) (State.dropStation_peers slot counted)
      (fun _ => by simp [PeerRecord.TimerOk])

theorem PeerRecord.takeContents_timerOk {b : Body} {r : PeerRecord} (h : r.TimerOk) : (r.takeContents b).TimerOk := by
  cases b <;> exact h

theorem PeerRecord.hear_timerOk (f : Frame) (full missing : Nat) (r : PeerRecord) : (r.hear f full missing).TimerOk := by
  simp [PeerRecord.TimerOk, PeerRecord.hear]

theorem State.acceptFrame_heard (f : Frame) (b : Body) (j : Judgement) (s : State) :
    s.ledger.Heard f.source.toNat (s.acceptFrame f b j).ledger := by
  unfold State.acceptFrame
  extract_lets slot counted kept before
  have hcounted : counted.ledger = s.ledger := by simp [counted]
  have hkept : s.ledger.Heard slot kept.ledger := by
    unfold kept
    split
    · exact hcounted ▸ counted.dropStation_heard slot
    · exact hcounted ▸ .refl slot _
  have hpeers : kept.peers = s.peers := by
    unfold kept
    split <;> simp [counted]
  exact hkept.writePeer hpeers (fun _ => PeerRecord.takeContents_timerOk (PeerRecord.hear_timerOk ..))

theorem State.discardFrame_ledger (slot : Nat) (s : State) : (s.discardFrame slot).ledger = s.ledger := by
  unfold State.discardFrame
  split <;> rfl

theorem State.judge_heard (f : Frame) (b : Body) (s : State) :
    s.ledger.Heard f.source.toNat (s.judge f b).1.ledger := by
  unfold State.judge
  extract_lets slot mismatch
  split
  · exact s.mismatched_heard _ _
  · exact State.discardFrame_ledger _ s ▸ .refl _ _
  · exact s.acceptFrame_heard f b _

theorem State.applyConflicts_ledger (e : PeerEntry) (items : List StuItem) (s : State) :
    (s.applyConflicts e items).ledger = s.ledger := by
  have hkeys (slots : Slots PeerObservation) :
      (s.table.entries.map (fun x => if isEntry e.slot e.point x then { x with slots := slots } else x)).map
        PeerEntry.key = s.table.entries.map PeerEntry.key := by
    rw [List.map_map]
    refine List.map_congr_left fun x _ => ?_
    simp only [Function.comp]
    split <;> rfl
  simp [State.ledger, State.applyConflicts, FigureTable.changed, hkeys]

theorem State.startMerge_routed {slot point parcel factor : Nat} {kind : PointKind} {items : List StuItem} {s : State}
    (hpoint : point < 24) (hroom : (slot, point) ∉ s.ledger.keys → s.ledger.keys.length < 160) :
    s.ledger.Routed slot (s.startMerge slot point kind parcel factor items).ledger := by
  unfold State.startMerge
  split
  · exact .refl ..
  · exact .toStu hpoint hroom

theorem State.figureFrame_routed {slot point parcel factor : Nat} {kind : PointKind} {items : List StuItem} {s : State}
    (hpoint : point < 24) : s.ledger.Routed slot (s.figureFrame slot point kind parcel factor items).ledger := by
  unfold State.figureFrame
  split
  case h_1 hnone =>
    split
    · exact .refl ..
    · split
      · exact .refl ..
      case isFalse hroom =>
        exact State.startMerge_routed hpoint fun _ => by
          simpa [State.ledger, Config.peerEntries] using hroom
  case h_2 e hsome =>
    split
    · exact .refl ..
    · extract_lets counted conflicting
      have hledger : conflicting.ledger = s.ledger := counted.applyConflicts_ledger e _
      have hheld : (slot, point) ∈ s.ledger.keys := by
        by_contra hnot
        simp [entry?_eq_none_iff.2 hnot] at hsome
      exact hledger ▸ State.startMerge_routed hpoint (by simp [hledger, hheld])

theorem State.withdrawFrame_routed (slot point : Nat) (kind : PointKind) (parcel : Nat) (s : State) :
    s.ledger.Routed slot (s.withdrawFrame slot point kind parcel).ledger := by
  unfold State.withdrawFrame
  split
  · exact .refl ..
  · split
    · obtain ⟨keys, hkeys, hledger⟩ := State.removeEntries_ledger [_] s
      exact hledger ▸ .removed hkeys
    · exact .refl ..

theorem State.point_of_kindFor {slot point kindCode parcel : Nat} {kind : PointKind} {s : State}
    (h : s.kindFor slot point kindCode parcel = some kind) : point < 24 := by
  unfold State.kindFor at h
  split at h
  · split at h
    · rename_i hgood
      have : point ≤ 23 := by simpa [pointInRange] using hgood.2.1
      omega
    · cases h
  · cases h

theorem State.route_routed (slot : Nat) (b : Body) (s : State) : s.ledger.Routed slot (s.route slot b).ledger := by
  cases b with
  | presence p => exact .refl ..
  | figure point kindCode parcel factor blocks =>
    simp only [State.route]
    split
    · split
      · exact State.figureFrame_routed (State.point_of_kindFor ‹_›)
      · exact .refl ..
    · exact .refl ..
  | withdraw point kindCode parcel =>
    simp only [State.route]
    split
    · exact s.withdrawFrame_routed ..
    · exact .refl ..
  | attest parcel epoch theirs =>
    simp only [State.route]
    split
    · exact .toComparison
    · exact .refl ..

theorem State.handleFrame_ledger (f : Frame) (s : State) :
    ∃ M, s.ledger.Heard f.source.toNat M ∧ M.Routed f.source.toNat (s.handleFrame f).ledger := by
  unfold State.handleFrame
  extract_lets slot
  split
  · exact ⟨_, .refl .., .refl ..⟩
  · split
    · exact ⟨_, .refl .., .refl ..⟩
    · next b _ =>
      have hheard := s.judge_heard f b
      split
      · next s' hjudge =>
        rw [hjudge] at hheard
        exact ⟨_, hheard, s'.route_routed slot b⟩
      · next s' hjudge =>
        rw [hjudge] at hheard
        exact ⟨_, hheard, .refl ..⟩

theorem State.takeFrame_step (s : State) : s.ledger.Step s.takeFrame.ledger := by
  unfold State.takeFrame
  split
  · exact .same
  · next f rest hqueue =>
    split
    · next hready =>
      obtain ⟨M, hheard, hrouted⟩ :=
        State.handleFrame_ledger f { s with intake := { s.intake with queue := rest } }
      exact .taken hqueue ((Hold.isClear_iff _).1 hready.1) (by simp [State.ledger, hready.2]) hheard hrouted
    · exact .same

/-! ### Station port requests -/

/-- A request served in every port state that only answers. -/
theorem State.serveRequest_ledger {body : State → State} (h : ∀ s : State, (body s).ledger = s.ledger) (s : State) :
    (s.serveRequest body).ledger = s.ledger := by
  unfold State.serveRequest
  split
  · rfl
  · exact h s.newSelection

theorem State.serveRequest_answer_ledger (code : ResultCode) (data : State → List Byte) (s : State) :
    (s.serveRequest (fun t => t.answer code (data t))).ledger = s.ledger :=
  State.serveRequest_ledger (fun t => t.answer_ledger code (data t)) s

/-- A request is ignored, refused with BUSY, or taken at an idle port. -/
theorem State.takeRequest_step {body : State → State}
    (h : ∀ s : State, s.port.busy = none → s.ledger.Step (body s).ledger) (s : State) :
    s.ledger.Step (s.takeRequest body).ledger := by
  unfold State.takeRequest State.serveRequest
  split
  · exact .same
  · dsimp only
    split
    · exact .same
    · next hbusy => exact h s.newSelection (by simpa using hbusy)

theorem State.takeRequest_ledger {body : State → State} (h : ∀ s : State, (body s).ledger = s.ledger) (s : State) :
    (s.takeRequest body).ledger = s.ledger := by
  refine State.serveRequest_ledger (fun t => ?_) s
  split
  · rfl
  · exact h t

theorem Ledger.Step.of_eq {L M : Ledger} (h : M = L) : L.Step M := h ▸ .same

/-! #### Loading the sheet, and START -/

theorem headerOf_inRange {number : BitVec 32} {revision : BitVec 16} {ownSlot direction amendMode : Byte}
    {silence : BitVec 16} {republish : Byte} {h : Header}
    (hof : headerOf number revision ownSlot direction amendMode silence republish = some h) : h.inRange = true := by
  unfold headerOf at hof
  split at hof
  · dsimp only at hof
    split at hof
    · next hrange => exact Option.some.inj hof ▸ hrange
    · cases hof
  · cases hof

theorem State.sheetBegin_step {h : Option Header} (hrange : ∀ x, h = some x → x.inRange = true) (s : State)
    (hbusy : s.port.busy = none) : s.ledger.Step (s.sheetBegin h).ledger := by
  unfold State.sheetBegin
  split
  · exact .same
  · next hstate =>
    split
    · exact .same
    · next x => exact .sheetBegun (by simpa [State.ledger_running] using hstate) hbusy (hrange x rfl)

theorem State.define_step {change : Option (Sheet → Sheet)}
    (hok : ∀ f, change = some f → ∀ sh, SheetOk sh → SheetOk (f sh)) (s : State) (hbusy : s.port.busy = none) :
    s.ledger.Step (s.define change).ledger := by
  unfold State.define
  split
  · exact .same
  · next hstate =>
    split
    · exact .same
    · next f => exact .defined (not_not.1 hstate) hbusy (hok f rfl)

/-- The definitions after one is put in: itself, and those there were. -/
theorem mem_upsert {α : Type} {number : α → Nat} {x y : α} {l : List α} (h : y ∈ upsert number x l) : y = x ∨ y ∈ l := by
  induction l with
  | nil => simpa [upsert] using h
  | cons z zs ih =>
    unfold upsert at h
    split at h
    · rcases List.mem_cons.1 h with h | h
      · exact .inl h
      · exact .inr (List.mem_cons_of_mem _ h)
    · split at h
      · exact List.mem_cons.1 h
      · rcases List.mem_cons.1 h with rfl | h
        · exact .inr (List.mem_cons_self ..)
        · exact (ih h).imp_right (List.mem_cons_of_mem _)

theorem upsert_ascending {α : Type} {number : α → Nat} {x : α} {l : List α} (h : Ascending (l.map number)) :
    Ascending ((upsert number x l).map number) := by
  induction l with
  | nil => simp [upsert]
  | cons z zs ih =>
    obtain ⟨hz, hzs⟩ := List.pairwise_cons.1 h
    unfold upsert
    split
    case isTrue heq => exact List.pairwise_cons.2 ⟨heq ▸ hz, hzs⟩
    case isFalse hne =>
      split
      case isTrue hlt =>
        refine List.pairwise_cons.2 ⟨fun n hn => ?_, h⟩
        rcases List.mem_cons.1 hn with rfl | hn
        · exact hlt
        · exact hlt.trans (hz n hn)
      case isFalse hge =>
        refine List.pairwise_cons.2 ⟨fun n hn => ?_, ih hzs⟩
        obtain ⟨y, hy, rfl⟩ := List.mem_map.1 hn
        rcases mem_upsert hy with rfl | hy
        · omega
        · exact hz _ (List.mem_map_of_mem hy)

theorem parcelDefOf_inRange {parcel : Byte} {tRef a b d : BitVec 16} {vef : BitVec 24} {inner outer : BitVec 16}
    {custody : Byte} {p : ParcelDef} (h : parcelDefOf parcel tRef a b d vef inner outer custody = some p) :
    p.inRange = true := by
  unfold parcelDefOf at h
  split at h
  · dsimp only at h
    split at h
    · next hrange => exact Option.some.inj h ▸ hrange
    · cases h
  · cases h

theorem SheetOk.withParcel {p : ParcelDef} (hp : p.inRange = true) {sh : Sheet} (h : SheetOk sh) :
    SheetOk { sh with parcels := upsert ParcelDef.number p sh.parcels } := by
  obtain ⟨hheader, hroster, hparcels, hranges, hpoints, hpointRanges⟩ := h
  refine ⟨hheader, hroster, upsert_ascending hparcels, fun q hq => ?_, hpoints, hpointRanges⟩
  rcases mem_upsert hq with rfl | hq
  · exact hp
  · exact hranges q hq

theorem SheetOk.withPoint {p : PointDef} (hp : p.inRange = true) {sh : Sheet} (h : SheetOk sh) :
    SheetOk { sh with points := upsert PointDef.number p sh.points } := by
  obtain ⟨hheader, hroster, hparcels, hranges, hpoints, hpointRanges⟩ := h
  refine ⟨hheader, hroster, hparcels, hranges, upsert_ascending hpoints, fun q hq => ?_⟩
  rcases mem_upsert hq with rfl | hq
  · exact hp
  · exact hpointRanges q hq

theorem SheetOk.withRole {sh : Sheet} (h : SheetOk sh) (slot : Nat) (r : Role) :
    SheetOk { sh with roster := sh.roster.set slot r } := by
  obtain ⟨hheader, hroster, hrest⟩ := h
  exact ⟨hheader, by simpa using hroster, hrest⟩

theorem State.sheetEnd_step (s : State) (hbusy : s.port.busy = none) : s.ledger.Step s.sheetEnd.ledger := by
  unfold State.sheetEnd
  split
  · exact .same
  · next hstate => exact .accepted hbusy (not_not.1 hstate) rfl

theorem State.sheetEndComplete_step (s : State) : s.ledger.Step s.sheetEndComplete.ledger := by
  unfold State.sheetEndComplete
  split
  · next sh hbusy hsheet =>
    dsimp only
    split
    · exact .validated hbusy hsheet (.inl rfl)
    · exact .validated hbusy hsheet (.inr rfl)
  · exact .same

theorem State.start_step (s : State) (hbusy : s.port.busy = none) : s.ledger.Step s.start.ledger := by
  unfold State.start
  split
  · next sh hstate hsheet =>
    refine .started hstate hbusy hsheet fun r hr => ?_
    simp only [List.map_flatMap, List.map_cons, List.map_nil, List.mem_flatMap, List.mem_cons, List.not_mem_nil,
      or_false] at hr
    obtain ⟨_, -, rfl | rfl⟩ := hr <;> exact ⟨rfl, rfl⟩
  · exact .same

/-! #### Own figures -/

theorem State.running_of_active {s : State} (h : s.sheet.node = .active) : s.running = true :=
  (State.running_iff s).2 (.inl h)

/-- A POST or WITHDRAW that is not refused finds the node ACTIVE. -/
theorem State.active_of_checkPost {point epoch : Nat} {raw : RawFigures} {s : State} {item : StuItem}
    (h : s.checkPost point epoch raw = .ok item) : s.sheet.node = .active := by
  by_contra hnot
  by_cases hfinal : s.sheet.node = .final <;> simp [State.checkPost, hfinal, hnot] at h

theorem State.active_of_checkWithdraw {point : Nat} {s : State} {u : Unit} (h : s.checkWithdraw point = .ok u) :
    s.sheet.node = .active := by
  by_contra hnot
  by_cases hfinal : s.sheet.node = .final <;> simp [State.checkWithdraw, hfinal, hnot] at h

theorem Ledger.Step.accept {s : State} {op : LongOp} (hbusy : s.port.busy = none) (hop : op ≠ .sheetEnd)
    (hstate : s.running = true) (hattest : isAttest (some op) = false) : s.ledger.Step (s.accept op).ledger :=
  .accepted hbusy (by rw [if_neg hop]; exact hstate) hattest

theorem State.post_step (point epoch : Nat) (raw : RawFigures) (s : State) (hbusy : s.port.busy = none) :
    s.ledger.Step (s.post point epoch raw).ledger := by
  unfold State.post
  split
  · exact .same
  · next hcheck =>
    exact Ledger.Step.accept hbusy (op := .post point) (by simp) (s.running_of_active (s.active_of_checkPost hcheck)) rfl

theorem State.withdraw_step (point : Nat) (s : State) (hbusy : s.port.busy = none) :
    s.ledger.Step (s.withdraw point).ledger := by
  unfold State.withdraw
  split
  · exact .same
  · next hcheck =>
    exact Ledger.Step.accept hbusy (by simp) (s.running_of_active (s.active_of_checkWithdraw hcheck)) rfl

theorem State.setPermit_ledger (value : Bool) (s : State) : (s.setPermit value).ledger = s.ledger := by
  unfold State.setPermit
  split <;> rfl

theorem State.postStore_step (s : State) : s.ledger.Step s.postStore.ledger := by
  unfold State.postStore
  split
  · next k r hbusy _ =>
    split
    · exact .same
    · split
      · exact .same
      · dsimp only
        rw [State.complete_ledger, State.markEpochs_ledger, State.raiseWatch_ledger, State.raiseIf_ledger,
          State.request_ledger, State.give_ledger]
        exact .completed (by simp [State.ledger, hbusy, isAttest])
  · exact .same

theorem State.withdrawalMade_step (s : State) : s.ledger.Step s.withdrawalMade.ledger := by
  unfold State.withdrawalMade
  split
  · next k hbusy =>
    split
    · exact .same
    · split
      · exact .same
      · dsimp only
        rw [State.complete_ledger, State.markEpochs_ledger, State.raiseWatch_ledger, State.request_ledger,
          State.give_ledger]
        exact .completed (by simp [State.ledger, hbusy, isAttest])
  · exact .same

theorem State.finalise_step (s : State) (hbusy : s.port.busy = none) : s.ledger.Step s.finalise.ledger := by
  unfold State.finalise
  split
  · exact .same
  · split
    · exact .same
    · next hstate =>
      split
      · exact .same
      · exact Ledger.Step.accept hbusy (by simp) (s.running_of_active (by simpa using hstate)) rfl

/-- A protection raise leaves the entries and the hold as they are. -/
theorem FigureTable.protect_entries (t : FigureTable) (level : Protection) (which : OwnPoint → Bool) :
    (t.protect level which).entries = t.entries ∧ (t.protect level which).hold = t.hold := by
  rcases t.protect_cases level which with ⟨-, h⟩ | ⟨-, h⟩ <;> rw [h] <;> exact ⟨rfl, rfl⟩

theorem State.finaliseMade_step (s : State) : s.ledger.Step s.finaliseMade.ledger := by
  unfold State.finaliseMade
  split
  · next hdue =>
    obtain ⟨hentries, hhold⟩ := s.table.protect_entries .throughClosing (fun _ => true)
    have := Ledger.Step.finalised (L := s.ledger) hdue.1
    simpa [State.ledger, hentries, hhold] using this
  · exact .same

theorem State.restart_step (s : State) (hbusy : s.port.busy = none) : s.ledger.Step s.restart.ledger := by
  unfold State.restart
  split
  · exact Ledger.Step.accept hbusy (by simp) ‹_› rfl
  · exact .same

theorem State.restartChange_step (s : State) : s.ledger.Step s.restartChange.ledger := by
  unfold State.restartChange
  split
  · next hdue =>
    refine .restarted hdue.1 fun r hr => ?_
    obtain ⟨_, hmem, rfl⟩ := List.mem_map.1 hr
    obtain ⟨_, -, rfl⟩ := List.mem_map.1 hmem
    exact ⟨rfl, rfl⟩
  · exact .same

/-! #### Attestation -/

theorem State.attestRequest_step (parcel epoch : Nat) (s : State) (hbusy : s.port.busy = none) :
    s.ledger.Step (s.attestRequest parcel epoch).ledger := by
  unfold State.attestRequest
  split
  · exact .same
  · next hstate =>
    split
    · exact .same
    · exact .same
    · next e _ _ =>
      split
      · exact .same
      · split
        · exact .same
        · have := Ledger.Step.attestAccepted (L := s.ledger) (p := parcel) (e := e) hbusy
            (by simpa [State.ledger_running] using hstate)
          simpa [State.ledger] using this

theorem State.intakeHoldSet_step (s : State) : s.ledger.Step s.intakeHoldSet.ledger := by
  unfold State.intakeHoldSet
  split
  · next hdue =>
    obtain ⟨hwaiting, hholder, hmerging⟩ := hdue
    exact .holdSet hwaiting hholder (by simp [State.ledger, hmerging])
  · exact .same

/-- A change of attest records that leaves parcel and epoch, seen on the sets alone. -/
theorem modifyAttest_setsOnly (p : Nat) (e : Epoch) {f g : AttestRecord → AttestRecord}
    (h : ∀ r, (f r).setsOnly = g r.setsOnly) (rs : List AttestRecord) :
    (modifyAttest p e f rs).map AttestRecord.setsOnly = modifyAttest p e g (rs.map AttestRecord.setsOnly) := by
  simp only [modifyAttest, List.map_map]
  refine List.map_congr_left fun r _ => ?_
  simp only [Function.comp]
  split
  · next hkey => exact (h r).trans (if_pos hkey).symm
  · next hkey => exact (if_neg hkey).symm

theorem modifyAttest_id (p : Nat) (e : Epoch) (rs : List AttestRecord) : modifyAttest p e id rs = rs := by
  simp [modifyAttest]

theorem State.attestScanComplete_step (s : State) : s.ledger.Step s.attestScanComplete.ledger := by
  unfold State.attestScanComplete
  split
  · next p e hbusy hholder =>
    dsimp only
    rw [State.complete_ledger, State.give_ledger]
    obtain ⟨hentries, hhold⟩ := s.table.protect_entries e.protection (fun o => decide (o.parcel = p) && !o.withdrawn)
    have hsets := modifyAttest_setsOnly p e (g := id)
      (f := fun r => { r with summary := some (s.scan p e), changedSince := false }) (fun _ => rfl) s.attest
    rw [modifyAttest_id] at hsets
    have := Ledger.Step.scanned (L := s.ledger) hbusy hholder
    simpa [State.ledger, hentries, hhold, hsets] using this
  · exact .same

theorem State.comparisonComplete_step (s : State) : s.ledger.Step s.comparisonComplete.ledger := by
  unfold State.comparisonComplete
  split
  · next slot p e theirs hmerging hholder =>
    dsimp only
    rw [State.raiseIf_ledger]
    have hsets (equal : Bool) := modifyAttest_setsOnly p e (f := AttestRecord.compared slot equal)
      (g := fun r => (r.compared slot equal).setsOnly) (fun r => by cases equal <;> rfl) s.attest
    have := Ledger.Step.compared (L := s.ledger) (slot := slot) (p := p) (e := e) (theirs := theirs)
      (equal := decide (s.scan p e = theirs)) (by simp [State.ledger, hmerging, Merge.withoutResults]) hholder
    simpa [State.ledger, hsets] using this
  · exact .same

/-! #### LINK RESET -/

theorem State.peersUnheard_ledger (s : State) :
    s.peersUnheard.ledger = { s.ledger with peers := s.peers.map PeerRecord.unheard } := by
  unfold State.peersUnheard
  dsimp only
  split <;> rfl

theorem State.linkReset_step (s : State) (hbusy : s.port.busy = none) : s.ledger.Step s.linkReset.ledger := by
  unfold State.linkReset
  split
  · next hstate =>
    have hreset (t : State) : t.linkResetStep.ledger = { t.ledger with
        queue := [], merging := none, hold := Hold.clear, peers := t.peers.map PeerRecord.unheard } := by
      unfold State.linkResetStep
      split <;> exact State.peersUnheard_ledger _
    rw [State.complete_ledger, hreset, State.accept_ledger]
    have := Ledger.Step.linkReset (L := s.ledger) hbusy hstate
    simpa [State.ledger, hbusy] using this
  · exact .same

/-! #### Requests that only read or set the port and the notices -/

theorem State.readPoint_ledger (k : Nat) (s : State) : (s.readPoint k).ledger = s.ledger := by
  unfold State.readPoint
  split
  · rfl
  · split
    · rfl
    · split <;> rfl

theorem State.readEntry_ledger (form first second : Nat) (s : State) :
    (s.readEntry form first second).ledger = s.ledger := by
  unfold State.readEntry
  split
  · rfl
  · extract_lets found
    have hfound (o : Option (List Byte)) : (found o).ledger = s.ledger := by cases o <;> rfl
    split
    · split
      · exact hfound _
      · rfl
    · exact hfound _
    · rfl

theorem State.readParcel_ledger (p : Nat) (s : State) : (s.readParcel p).ledger = s.ledger := by
  unfold State.readParcel
  split
  · rfl
  · split
    · rfl
    · split <;> rfl

theorem State.readAttest_ledger (p epoch : Nat) (s : State) : (s.readAttest p epoch).ledger = s.ledger := by
  unfold State.readAttest
  split
  · rfl
  · split
    · rfl
    · rfl
    · split <;> rfl

theorem State.readPeer_ledger (slot : Nat) (s : State) : (s.readPeer slot).ledger = s.ledger := by
  unfold State.readPeer
  split <;> rfl

theorem State.walk_ledger (index : Nat) (s : State) : (s.walk index).ledger = s.ledger := by
  unfold State.walk
  split <;> rfl

theorem State.walkNext_ledger (s : State) : s.walkNext.ledger = s.ledger := by
  unfold State.walkNext
  split
  · rfl
  · split <;> rfl

theorem State.earlyDeselection_ledger (bits : Nat) (s : State) : (s.earlyDeselection bits).ledger = s.ledger := by
  unfold State.earlyDeselection
  split
  · rfl
  · split
    · rfl
    · dsimp only
      split <;> rfl

theorem State.resetReleased_ledger (selLow : Bool) (s : State) : (s.resetReleased selLow).ledger = s.ledger := by
  unfold State.resetReleased
  split <;> rfl

theorem State.noticeEnable_ledger (kind setting : Nat) (s : State) :
    (s.noticeEnable kind setting).ledger = s.ledger := by
  unfold State.noticeEnable
  split <;> rfl

theorem State.edgeSelect_ledger (parcel setting : Nat) (s : State) :
    (s.edgeSelect parcel setting).ledger = s.ledger := by
  unfold State.edgeSelect
  split
  · rfl
  · rfl
  · split <;> rfl

theorem State.acknowledge_ledger (kind subject : Nat) (s : State) :
    (s.acknowledge kind subject).ledger = s.ledger := by
  unfold State.acknowledge
  split
  · rfl
  · split
    · rfl
    · split <;> rfl

theorem State.watchAdd_ledger (slot point : Nat) (s : State) : (s.watchAdd slot point).ledger = s.ledger := by
  unfold State.watchAdd
  split
  · rfl
  · split
    · rfl
    · split <;> rfl

theorem State.watchRemove_ledger (slot point : Nat) (s : State) : (s.watchRemove slot point).ledger = s.ledger := by
  unfold State.watchRemove
  split
  · rfl
  · split <;> rfl

/-! ### Events -/

theorem State.handResults_ledger (r : Requester) (results : List StuResult) (s : State) :
    (s.handResults r results).ledger = s.ledger := by
  unfold State.handResults
  split
  · rfl
  · split
    · next hmerging => simp [State.ledger, hmerging, Merge.withoutResults]
    · rfl

theorem State.stuComputed_ledger (s : State) : s.stuComputed.ledger = s.ledger := by
  unfold State.stuComputed
  split
  · split
    · rfl
    · dsimp only
      split
      · exact State.handResults_ledger _ _ _
      · rfl
  · rfl

theorem State.frameMerge_step (s : State) : s.ledger.Step s.frameMerge.ledger := by
  unfold State.frameMerge
  split
  · next slot point kind parcel factor results hmerging hholder =>
    extract_lets old entry table intake merged requested differs flagged
    have hkey : entry.key = (slot, point) := by
      unfold entry old
      cases hentry : s.table.entry? slot point with
      | none => rfl
      | some e => exact Prod.ext (entry?_key hentry).2.1 (entry?_key hentry).2.2
    have hmerged : merged.ledger = { s.ledger with
        merging := none, keys := (insertEntry entry s.table.entries).map PeerEntry.key } := rfl
    have hflagged : ∃ peers, PeerWritten slot s.peers peers ∧ flagged.ledger = { merged.ledger with peers := peers } := by
      unfold flagged
      split
      · exact ⟨_, .set (r := { s.peer slot with mismatch := true }) id, State.updatePeer_ledger ..⟩
      · exact ⟨_, .refl .., rfl⟩
    obtain ⟨peers, hpeers, hledger⟩ := hflagged
    rw [State.markEpochs_ledger, State.raiseWatch_ledger, State.raiseIf_ledger, State.raiseIf_ledger, hledger, hmerged]
    refine .merged (point := point) (parcel := parcel) (factor := factor) (kind := kind)
      (by simp [State.ledger, hmerging, Merge.withoutResults]) hholder (fun k hk => ?_) insertEntry_sorted
      (fun hsorted => ?_) hpeers
    · exact hkey ▸ mem_keys_insertEntry hk
    · rw [List.length_map, insertEntry_length hsorted, hkey]
      simp [State.ledger]
  · exact .same

theorem State.silenceExpired_step (slot : Nat) (s : State) : s.ledger.Step (s.silenceExpired slot).ledger := by
  unfold State.silenceExpired
  dsimp only
  split
  · next hdue =>
    rw [State.raise_ledger, State.setPeer_ledger]
    exact .silenced hdue.1 (.set fun _ => by simp [PeerRecord.TimerOk])
  · exact .same

theorem State.turnGap_ledger (s : State) : s.turnGap.ledger = s.ledger := by
  unfold State.turnGap
  split
  · dsimp only
    split
    · rfl
    · rfl
    · split <;> rfl
  · rfl

theorem State.sendComplete_ledger (stopDominant : Bool) (s : State) : (s.sendComplete stopDominant).ledger = s.ledger := by
  unfold State.sendComplete
  split
  · split <;> rfl
  · rfl

theorem State.clash_ledger (s : State) : s.clash.ledger = s.ledger := by
  unfold State.clash
  split
  · split <;> rfl
  · rfl

theorem State.clashMarkEnd_ledger (s : State) : s.clashMarkEnd.ledger = s.ledger := by
  unfold State.clashMarkEnd
  split
  · split <;> rfl
  · rfl

theorem State.failReception_ledger (s : State) : s.failReception.ledger = s.ledger := by
  unfold State.failReception
  exact State.raiseIf_ledger ..

theorem State.validFrame_step (f : Frame) (s : State) : s.ledger.Step (s.validFrame f).ledger := by
  unfold State.validFrame
  dsimp only
  split
  · exact .same
  · next hsource =>
    unfold FrameIntake.queued
    split
    · exact .queued hsource
    · exact .same

theorem State.frameReceived_step (bytes : List Byte) (s : State) : s.ledger.Step (s.frameReceived bytes).ledger := by
  have hheard : (s.mapLau (Lau.heardLevels bytes)).ledger = s.ledger := rfl
  have hround : s.ledger.Step (match Frame.ofBytes bytes with
      | some f => (s.mapLau (Lau.heardLevels bytes)).validFrame f
      | none => (s.mapLau (Lau.heardLevels bytes)).failReception).ledger := by
    split
    · exact hheard ▸ State.validFrame_step _ (s.mapLau (Lau.heardLevels bytes))
    · exact .of_eq ((State.failReception_ledger _).trans hheard)
  unfold State.frameReceived
  split
  · exact .same
  · exact .same
  · exact .same
  · exact .same
  · exact .same
  · exact hround
  · exact hround

theorem State.republishExpired_ledger (s : State) : s.republishExpired.ledger = s.ledger := by
  unfold State.republishExpired
  split
  · dsimp only
    split <;> rfl
  · rfl

theorem State.balanceTake_ledger (s : State) : s.balanceTake.ledger = s.ledger := by
  unfold State.balanceTake
  split <;> rfl

theorem State.raiseEdge_ledger (p : Nat) (old new : Verdict) (s : State) : (s.raiseEdge p old new).ledger = s.ledger := by
  unfold State.raiseEdge
  split <;> rfl

theorem State.balanceComplete_ledger (s : State) : s.balanceComplete.ledger = s.ledger := by
  unfold State.balanceComplete
  split
  · split
    · split
      · rfl
      · exact State.raiseEdge_ledger ..
      · rfl
      · rfl
    · rfl
  · rfl

/-! ### Every step -/

/-- What a command other than a power-on reset can do to the ledger. -/
theorem exec_ledgerStep {c : Instr} (hc : ∀ byInput, c ≠ .powerOnReset byInput) (s : State) :
    s.ledger.Step (s.after c).ledger := by
  cases c with
  | powerOnReset byInput => exact absurd rfl (hc byInput)
  | unknownRequest code =>
    show s.ledger.Step (if (paramBytes code).isNone then s.serveRequest (State.answerCode .unknown) else s).ledger
    split
    · exact .of_eq (State.serveRequest_answer_ledger .unknown (fun _ => []) s)
    · exact .same
  | earlyDeselection bits => exact .of_eq (s.earlyDeselection_ledger bits)
  | status => exact .of_eq (State.serveRequest_answer_ledger .done State.statusBytes s)
  | identify => exact .of_eq (State.serveRequest_answer_ledger .done (fun _ => identifyBytes) s)
  | sheetBegin number revision ownSlot direction amendMode silence republish =>
    exact State.takeRequest_step (State.sheetBegin_step fun _ => headerOf_inRange) s
  | sheetParcel parcel tRef a b d vef inner outer custody =>
    refine State.takeRequest_step (State.define_step fun f hf sh => ?_) s
    obtain ⟨p, hp, rfl⟩ := Option.map_eq_some_iff.1 hf
    exact SheetOk.withParcel (parcelDefOf_inRange hp)
  | sheetRoster slot role =>
    refine State.takeRequest_step (State.define_step fun f hf sh hsh => ?_) s
    split at hf
    · obtain ⟨r, -, rfl⟩ := Option.map_eq_some_iff.1 hf
      exact hsh.withRole slot.toNat r
    · cases hf
  | sheetPoint point parcel meterFactor =>
    refine State.takeRequest_step (State.define_step fun f hf sh => ?_) s
    dsimp only at hf
    split at hf
    · next hrange =>
      obtain rfl := Option.some.inj hf
      exact SheetOk.withPoint hrange
    · cases hf
  | sheetEnd => exact State.takeRequest_step State.sheetEnd_step s
  | sheetEndComplete => exact s.sheetEndComplete_step
  | start => exact State.takeRequest_step State.start_step s
  | post point epoch quantity water temperature => exact State.takeRequest_step (State.post_step _ _ _) s
  | stuGrant => exact .same
  | stuObservationComputed => exact .of_eq s.stuComputed_ledger
  | postStore => exact s.postStore_step
  | permit => exact .of_eq (State.takeRequest_ledger (State.setPermit_ledger true) s)
  | revoke => exact .of_eq (State.takeRequest_ledger (State.setPermit_ledger false) s)
  | withdraw point => exact State.takeRequest_step (State.withdraw_step _) s
  | withdrawalMade => exact s.withdrawalMade_step
  | finalise => exact State.takeRequest_step State.finalise_step s
  | finaliseMade => exact s.finaliseMade_step
  | attest parcel epoch => exact State.takeRequest_step (State.attestRequest_step _ _) s
  | intakeHoldSet => exact s.intakeHoldSet_step
  | attestScanComplete => exact s.attestScanComplete_step
  | restart => exact State.takeRequest_step State.restart_step s
  | restartChange => exact s.restartChange_step
  | linkReset => exact State.takeRequest_step State.linkReset_step s
  | serviceQuery => exact .of_eq (State.serveRequest_answer_ledger .done _ s)
  | acknowledge kind subject => exact .of_eq (State.takeRequest_ledger (State.acknowledge_ledger _ _) s)
  | noticeEnable kind setting => exact .of_eq (State.takeRequest_ledger (State.noticeEnable_ledger _ _) s)
  | edgeSelect parcel setting => exact .of_eq (State.takeRequest_ledger (State.edgeSelect_ledger _ _) s)
  | watchAdd slot point => exact .of_eq (State.takeRequest_ledger (State.watchAdd_ledger _ _) s)
  | watchRemove slot point => exact .of_eq (State.takeRequest_ledger (State.watchRemove_ledger _ _) s)
  | readPoint point => exact .of_eq (State.serveRequest_ledger (State.readPoint_ledger _) s)
  | readEntry form first second => exact .of_eq (State.serveRequest_ledger (State.readEntry_ledger _ _ _) s)
  | readParcel parcel => exact .of_eq (State.serveRequest_ledger (State.readParcel_ledger _) s)
  | readAttest parcel epoch => exact .of_eq (State.serveRequest_ledger (State.readAttest_ledger _ _) s)
  | readPeer slot => exact .of_eq (State.serveRequest_ledger (State.readPeer_ledger _) s)
  | readCounters => exact .of_eq (State.serveRequest_answer_ledger .done State.counterBytes s)
  | readNotices => exact .of_eq (State.serveRequest_answer_ledger .done _ s)
  | walk index => exact .of_eq (State.serveRequest_ledger (State.walk_ledger _) s)
  | walkRecordTaken => exact .of_eq s.walkNext_ledger
  | walkDeselected => exact .same
  | quiet => exact .same
  | claimDecision => exact .same
  | windowEnd => exact .same
  | turnGap => exact .of_eq s.turnGap_ledger
  | turnTimeout => exact .same
  | sendComplete stopDominant => exact .of_eq (s.sendComplete_ledger stopDominant)
  | clash => exact .of_eq s.clash_ledger
  | clashMarkEnd => exact .of_eq s.clashMarkEnd_ledger
  | receptionFailed =>
    show s.ledger.Step (if s.lau.line = .round .receiving then s.failReception else s).ledger
    split
    · exact .of_eq s.failReception_ledger
    · exact .same
  | frameReceived bytes => exact s.frameReceived_step bytes
  | intakeTakeFrame => exact s.takeFrame_step
  | frameMerge => exact s.frameMerge_step
  | comparisonComplete => exact s.comparisonComplete_step
  | balanceTake => exact .of_eq s.balanceTake_ledger
  | balanceComplete => exact .of_eq s.balanceComplete_ledger
  | silenceTimerExpiry slot => exact s.silenceExpired_step slot.toNat
  | presenceTimerExpiry => exact .same
  | republishTimerExpiry => exact .of_eq s.republishExpired_ledger
  | dominantLevelRead startBit => exact .same
  | claimSlotSample slot dominant => exact .same
  | resetReleased selLow => exact .of_eq (s.resetReleased_ledger selLow)

/-- What a step can do to the ledger: a power-on reset, or one of the changes of `Ledger.Step`. -/
theorem step_ledger {s t : State} (h : step s = .next t) : t.ledger = State.reset.ledger ∨ s.ledger.Step t.ledger := by
  rcases step_cases h with ⟨-, rfl⟩ | ⟨c, rest, -, hexec⟩
  · exact .inr .ticked
  · rw [exec_next, Host.Outcome.next.injEq] at hexec
    by_cases hc : ∃ byInput, c = .powerOnReset byInput
    · obtain ⟨byInput, rfl⟩ := hc
      exact .inl (hexec ▸ rfl)
    · exact .inr (hexec ▸ exec_ledgerStep (fun byInput heq => hc ⟨byInput, heq⟩) { s with pending := rest })

end Sys2Proof.Machine
end

section
/-! PROOFS. The invariants of the ledger, of the node before START, and the statements that every step keeps them (R24, R25, R27,
R38, R74, R90, R115, R119, R140). -/

namespace Sys2Proof.Machine

/-! ### The invariants, said of the ledger -/

theorem Merge.slot_withoutResults (m : Merge) : m.withoutResults.slot = m.slot := by cases m <;> rfl

theorem isComparison_withoutResults (m : Option Merge) :
    isComparison (m.map Merge.withoutResults) = isComparison m := by
  rcases m with _ | (_ | _) <;> rfl

/-- Room for the entry that a frame at the STU will create (R38), said of the keys. -/
def Merge.roomIn (keys : List (Nat × Nat)) : Merge → Prop
  | .figure slot point _ _ _ _ => slot < 16 ∧ point < 24 ∧ ((slot, point) ∉ keys → keys.length < 160)
  | .comparison _ _ _ _ => True

theorem Merge.hasRoom_iff_roomIn (t : FigureTable) (m : Merge) :
    m.hasRoom t = true ↔ m.withoutResults.roomIn (t.entries.map PeerEntry.key) := by
  cases m with
  | figure slot point kind parcel factor results =>
    simp only [Merge.hasRoom, Merge.roomIn, Merge.withoutResults, entry?_eq_none_iff, List.length_map,
      decide_eq_true_eq]
  | comparison slot parcel epoch theirs => simp [Merge.hasRoom, Merge.roomIn, Merge.withoutResults]

/-- `TableInv`, said of the keys. -/
def Ledger.TableInv (L : Ledger) : Prop :=
  L.keys.Pairwise keyLt ∧ (∀ k ∈ L.keys, k.1 < 16 ∧ k.2 < 24) ∧ L.keys.length ≤ 160 ∧ ∀ m ∈ L.merging, m.roomIn L.keys

theorem tableInv_iff (s : State) : TableInv s ↔ s.ledger.TableInv := by
  simp [Ledger.TableInv, State.ledger, List.pairwise_map, Merge.hasRoom_iff_roomIn, PeerEntry.key]

/-- `SheetInv`, said of the ledger. -/
def Ledger.SheetInv (L : Ledger) : Prop :=
  (L.sheet.node = .blank ↔ L.sheet.sheet = none) ∧ (∀ sh ∈ L.sheet.sheet, SheetOk sh)
    ∧ ∀ op ∈ L.busy, if op = .sheetEnd then L.sheet.node = .loading else L.running = true

theorem sheetInv_iff (s : State) : SheetInv s ↔ s.ledger.SheetInv := Iff.rfl

/-- `HoldInv`, said of the ledger. -/
def Ledger.HoldInv (L : Ledger) : Prop :=
  (L.hold.holder = some .intake ↔ isComparison L.merging = true)
    ∧ ((L.hold.waiting = true ∨ L.hold.holder = some .attestation) ↔ isAttest L.busy = true)
    ∧ (L.hold.holder = some .attestation → L.merging = none ∧ L.hold.waiting = false)

theorem holdInv_iff (s : State) : HoldInv s ↔ s.ledger.HoldInv := by
  simp [Ledger.HoldInv, State.ledger, isComparison_withoutResults]

/-- `PeersInv`, said of the ledger. -/
def Ledger.PeersInv (L : Ledger) : Prop := L.peers.length = 16 ∧ ∀ r ∈ L.peers, r.TimerOk

theorem peersInv_iff (s : State) : PeersInv s ↔ s.ledger.PeersInv := Iff.rfl

/-- `SetsDisjoint`, said of the ledger. -/
def Ledger.SetsDisjoint (L : Ledger) : Prop := ∀ r ∈ L.sets, r.matching &&& r.diverging = 0

theorem setsDisjoint_iff (s : State) : SetsDisjoint s ↔ s.ledger.SetsDisjoint := by
  simp [SetsDisjoint, Ledger.SetsDisjoint, State.ledger, AttestRecord.setsOnly]

/-- A slot is in neither set of a record. -/
abbrev AttestRecord.Without (slot : Nat) (r : AttestRecord) : Prop :=
  slotIn r.matching slot = false ∧ slotIn r.diverging slot = false

/-- What `OwnSlotInv` says of the own slot, said of the ledger. -/
def Ledger.OwnUnheard (L : Ledger) : Prop :=
  L.peers.getD L.ownSlot PeerRecord.reset = PeerRecord.reset
    ∧ (∀ f ∈ L.queue, f.source.toNat ≠ L.ownSlot)
    ∧ (∀ m ∈ L.merging, m.slot ≠ L.ownSlot)
    ∧ (∀ k ∈ L.keys, k.1 ≠ L.ownSlot)
    ∧ ∀ r ∈ L.sets, r.Without L.ownSlot

theorem ownSlotInv_iff (s : State) : OwnSlotInv s ↔ SheetInv s ∧ IdleInv s ∧ s.ledger.OwnUnheard := by
  simp [OwnSlotInv, Ledger.OwnUnheard, ← State.ledger_ownSlot, State.peer, State.ledger, Merge.slot_withoutResults, PeerEntry.key,
    AttestRecord.setsOnly]

/-- Before START the ledger has nothing heard (R22, R90). -/
def Ledger.Blank (L : Ledger) : Prop :=
  L.keys = [] ∧ L.queue = [] ∧ L.merging = none ∧ L.peers = List.replicate 16 PeerRecord.reset ∧ L.sets = []

theorem IdleInv.ledger_blank {s : State} (h : IdleInv s) (hr : s.running = false) : s.ledger.Blank := by
  obtain ⟨-, htable, -, hattest, -, hintake, hpeers, -⟩ := h hr
  simp [Ledger.Blank, State.ledger, htable, hattest, hintake, hpeers, FigureTable.reset, FrameIntake.reset]

/-! ### Every step keeps them -/

theorem Ledger.TableInv.of_sublist {L M : Ledger} (h : L.TableInv) (hkeys : M.keys.Sublist L.keys)
    (hmerging : M.merging = none) : M.TableInv := by
  obtain ⟨hsorted, hrange, hlength, -⟩ := h
  exact ⟨hsorted.sublist hkeys, fun k hk => hrange k (hkeys.subset hk), hkeys.length_le.trans hlength, by simp [hmerging]⟩

theorem Ledger.Routed.tableInv {slot : Nat} {L M : Ledger} (hs : L.Routed slot M) (hslot : slot < 16)
    (hmerging : L.merging = none) (h : L.TableInv) : M.TableInv := by
  cases hs with
  | removed hkeys => exact h.of_sublist hkeys hmerging
  | toStu hpoint hroom =>
    obtain ⟨hsorted, hrange, hlength, -⟩ := h
    exact ⟨hsorted, hrange, hlength, by simpa [Merge.roomIn] using ⟨hslot, hpoint, hroom⟩⟩
  | toComparison =>
    obtain ⟨hsorted, hrange, hlength, -⟩ := h
    exact ⟨hsorted, hrange, hlength, by simp [Merge.roomIn]⟩

/-- A step takes entries away, writes the one that a merge had room for, or begins a merge that has room. -/
theorem Ledger.Step.tableInv {L M : Ledger} (hs : L.Step M) (h : L.TableInv) : M.TableInv := by
  cases hs with
  | linkReset hbusy hstate => exact h.of_sublist (.refl _) rfl
  | taken hqueue hhold hmerging hheard hrouted =>
    cases hheard with
    | intro hkeys hsets hpeers =>
      exact hrouted.tableInv (BitVec.isLt _) hmerging (h.of_sublist hkeys hmerging)
  | merged hmerging hholder hmem hsorted hlength hpeers =>
    obtain ⟨hkeys, hrange, hcount, hroom⟩ := h
    obtain ⟨hslot, hpoint, hfree⟩ := hroom _ hmerging
    refine ⟨hsorted hkeys, fun k hk => ?_, ?_, by simp⟩
    · rcases hmem k hk with rfl | hk
      · exact ⟨hslot, hpoint⟩
      · exact hrange k hk
    · rw [hlength hkeys]
      split
      · exact hcount
      · exact hfree ‹_›
  | compared hmerging hholder => exact h.of_sublist (.refl _) rfl
  | same | sheetBegun | defined | validated | started | accepted | attestAccepted | completed | finalised | restarted
  | holdSet | scanned | queued | silenced | ticked => exact h

theorem Ledger.Blank.ownUnheard {L : Ledger} (h : L.Blank) : L.OwnUnheard := by
  obtain ⟨hkeys, hqueue, hmerging, hpeers, hsets⟩ := h
  refine ⟨?_, by simp [hqueue], by simp [hmerging], by simp [hkeys], by simp [hsets]⟩
  rw [hpeers, List.getD_eq_getElem?_getD, List.getElem?_replicate]
  split <;> rfl

theorem AttestRecord.without_of_empty {r : AttestRecord} (h : r.matching = 0 ∧ r.diverging = 0) (slot : Nat) :
    r.Without slot := by
  simp [AttestRecord.Without, slotIn, h.1, h.2]

/-- Writing the record of another slot leaves that of a slot as it is. -/
theorem PeerWritten.getD_of_ne {slot i : Nat} {before after : List PeerRecord} (h : PeerWritten slot before after)
    (hne : slot ≠ i) : after.getD i PeerRecord.reset = before.getD i PeerRecord.reset := by
  rcases h with rfl | ⟨r, rfl, -⟩
  · rfl
  · simp [List.getD_eq_getElem?_getD, List.getElem?_set_ne hne]

/-- A change that leaves a record of power-on values as it is, made in every record. -/
theorem getD_map_reset {f : PeerRecord → PeerRecord} (hf : f PeerRecord.reset = PeerRecord.reset) {peers : List PeerRecord}
    {i : Nat} (h : peers.getD i PeerRecord.reset = PeerRecord.reset) :
    (peers.map f).getD i PeerRecord.reset = PeerRecord.reset := by
  rw [← hf, List.getD_map, h]

theorem AttestRecord.Without.dropped {own : Nat} {r : AttestRecord} (h : r.Without own) (slot : Nat) :
    AttestRecord.Without own { r with matching := slotDrop r.matching slot, diverging := slotDrop r.diverging slot } := by
  simp_all [AttestRecord.Without, slotIn, slotDrop_getLsbD]

theorem AttestRecord.Without.compared {own slot : Nat} {r : AttestRecord} (h : r.Without own) (hne : slot ≠ own)
    (equal : Bool) : (r.compared slot equal).setsOnly.Without own := by
  obtain ⟨hmatching, hdiverging⟩ := h
  cases equal <;>
    simp_all [AttestRecord.Without, AttestRecord.compared, AttestRecord.setsOnly, slotIn, slotAdd_getLsbD,
      slotDrop_getLsbD, Ne.symm hne]

theorem Ledger.Heard.ownUnheard {slot : Nat} {L M : Ledger} (hs : L.Heard slot M) (hslot : slot ≠ L.ownSlot)
    (h : L.OwnUnheard) : M.OwnUnheard := by
  cases hs with
  | intro hkeys hsets hpeers =>
    obtain ⟨hown, hqueue, hmerging, hkey, hset⟩ := h
    refine ⟨(hpeers.getD_of_ne hslot).trans hown, hqueue, hmerging, fun k hk => hkey k (hkeys.subset hk), ?_⟩
    rcases hsets with rfl | rfl
    · exact hset
    · intro r hr
      obtain ⟨q, hq, rfl⟩ := List.mem_map.1 hr
      exact (hset q hq).dropped slot

theorem Ledger.Routed.ownUnheard {slot : Nat} {L M : Ledger} (hs : L.Routed slot M) (hslot : slot ≠ L.ownSlot)
    (h : L.OwnUnheard) : M.OwnUnheard := by
  obtain ⟨hown, hqueue, hmerging, hkey, hset⟩ := h
  cases hs with
  | removed hkeys => exact ⟨hown, hqueue, hmerging, fun k hk => hkey k (hkeys.subset hk), hset⟩
  | toStu hpoint hroom => exact ⟨hown, hqueue, by rintro _ ⟨⟩; exact hslot, hkey, hset⟩
  | toComparison => exact ⟨hown, hqueue, by rintro _ ⟨⟩; exact hslot, hkey, hset⟩

/-- No frame of the own slot joins the queue, so nothing of it is heard; a new sheet's own slot finds nothing heard. -/
theorem Ledger.Step.ownUnheard {L M : Ledger} (hs : L.Step M) (hblank : L.running = false → L.Blank) (h : L.OwnUnheard) :
    M.OwnUnheard := by
  obtain ⟨hown, hqueue, hmerging, hkey, hset⟩ := h
  cases hs with
  | sheetBegun hstate hbusy hrange => exact Ledger.Blank.ownUnheard (hblank hstate)
  | defined hstate hbusy hok =>
    exact Ledger.Blank.ownUnheard (hblank (by simp [Ledger.running, hstate]))
  | started hstate hbusy hsheet hsets =>
    exact ⟨hown, hqueue, hmerging, hkey, fun r hr => AttestRecord.without_of_empty (hsets r hr) _⟩
  | restarted hbusy hsets =>
    exact ⟨hown, hqueue, hmerging, hkey, fun r hr => AttestRecord.without_of_empty (hsets r hr) _⟩
  | linkReset hbusy hstate => exact ⟨getD_map_reset rfl hown, by simp, by simp, hkey, hset⟩
  | queued hsource =>
    refine ⟨hown, fun g hg => ?_, hmerging, hkey, hset⟩
    rcases List.mem_append.1 hg with hg | hg
    · exact hqueue g hg
    · exact List.mem_singleton.1 hg ▸ hsource
  | @taken f rest M N hhead hhold hnone hheard hrouted =>
    have hslot : f.source.toNat ≠ L.ownSlot := hqueue f (hhead ▸ List.mem_cons_self ..)
    have hrest : ({ L with queue := rest } : Ledger).OwnUnheard :=
      ⟨hown, fun g hg => hqueue g (hhead ▸ List.mem_cons_of_mem _ hg), hmerging, hkey, hset⟩
    have hM : M.ownSlot = L.ownSlot := by cases hheard; rfl
    exact hrouted.ownUnheard (hM ▸ hslot) (hheard.ownUnheard hslot hrest)
  | merged hmerge hholder hmem hsorted hlength hpeers =>
    have hslot := hmerging _ hmerge
    refine ⟨(hpeers.getD_of_ne hslot).trans hown, hqueue, by simp, fun k hk => ?_, hset⟩
    rcases hmem k hk with rfl | hk
    · exact hslot
    · exact hkey k hk
  | compared hmerge hholder =>
    refine ⟨hown, hqueue, by simp, hkey, fun r hr => ?_⟩
    obtain ⟨q, hq, rfl⟩ := List.mem_map.1 hr
    split
    · exact (hset q hq).compared (hmerging _ hmerge) _
    · exact hset q hq
  | silenced hpresent hpeers =>
    refine ⟨(hpeers.getD_of_ne ?_).trans hown, hqueue, hmerging, hkey, hset⟩
    rintro rfl
    exact absurd ((congrArg PeerRecord.state hown).symm.trans hpresent) (by decide)
  | ticked => exact ⟨getD_map_reset rfl hown, hqueue, hmerging, hkey, hset⟩
  | same | validated | accepted | attestAccepted | completed | finalised | holdSet | scanned =>
    exact ⟨hown, hqueue, hmerging, hkey, hset⟩

/-- A step replaces the sheet by a good one or keeps it, and takes a long operation only in a state that admits it. -/
theorem Ledger.Step.sheetInv {L M : Ledger} (hs : L.Step M) (h : L.SheetInv) : M.SheetInv := by
  obtain ⟨hblank, hok, hop⟩ := h
  cases hs with
  | sheetBegun hstate hbusy hrange =>
    refine ⟨by simp, fun sh hsh => ?_, by simp [hbusy]⟩
    obtain rfl := Option.some.inj hsh
    exact ⟨hrange, by simp [Config.linkSlots], by simp, by simp, by simp, by simp⟩
  | defined hstate hbusy hf =>
    refine ⟨by simpa using hblank, fun sh hsh => ?_, by simp [hbusy]⟩
    obtain ⟨x, hx, rfl⟩ := Option.map_eq_some_iff.1 hsh
    exact hf x (hok x hx)
  | validated hbusy hsheet hnode =>
    have hloading : L.sheet.node = .loading := by simpa using hop _ hbusy
    exact ⟨by rcases hnode with rfl | rfl <;> simp [hsheet, hloading], hok, by simp⟩
  | started hstate hbusy hsheet hsets => exact ⟨by simp [hsheet], hok, by simp [hbusy]⟩
  | accepted hbusy hstate hattest => exact ⟨hblank, hok, by rintro _ ⟨⟩; exact hstate⟩
  | attestAccepted hbusy hstate => exact ⟨hblank, hok, by rintro _ ⟨⟩; exact hstate⟩
  | completed hbusy => exact ⟨hblank, hok, by simp⟩
  | finalised hbusy | restarted hbusy hsets =>
    have hrunning : L.running = true := by simpa using hop _ hbusy
    have hheld : L.sheet.sheet ≠ none := by
      rw [Ne, ← hblank]
      intro hnode
      simp [Ledger.running, hnode] at hrunning
    exact ⟨by simpa using hheld, hok, by simp⟩
  | scanned hbusy hholder => exact ⟨hblank, hok, by simp⟩
  | taken hqueue hhold hmerging hheard hrouted =>
    cases hheard
    cases hrouted <;> exact ⟨hblank, hok, hop⟩
  | same | holdSet | linkReset | queued | merged | compared | silenced | ticked => exact ⟨hblank, hok, hop⟩

/-- The hold changes hands as R27 says. -/
theorem Ledger.Step.holdInv {L M : Ledger} (hs : L.Step M) (h : L.HoldInv) : M.HoldInv := by
  obtain ⟨hintake, hattest, hfree⟩ := h
  cases hs with
  | validated hbusy hsheet hnode => exact ⟨hintake, by rwa [hbusy] at hattest, hfree⟩
  | accepted hbusy hstate hop => exact ⟨hintake, by rw [hop]; rwa [hbusy] at hattest, hfree⟩
  | attestAccepted hbusy hstate =>
    have hidle : L.hold.waiting = false ∧ L.hold.holder ≠ some .attestation := by
      simpa [hbusy, isAttest, not_or] using hattest
    obtain ⟨hwaiting, hholder⟩ := hidle
    cases hmerging : L.merging with
    | none => exact ⟨by simp [Hold.requestByAttest, isComparison], by simp [Hold.requestByAttest, isAttest],
        fun _ => ⟨rfl, rfl⟩⟩
    | some m =>
      rw [hmerging] at hintake
      exact ⟨hintake, by simp [Hold.requestByAttest, isAttest], fun h => absurd h hholder⟩
  | completed hbusy => exact ⟨hintake, by rw [hbusy] at hattest; exact hattest, hfree⟩
  | finalised hbusy => exact ⟨hintake, by rwa [hbusy] at hattest, hfree⟩
  | restarted hbusy hsets => exact ⟨hintake, by rwa [hbusy] at hattest, hfree⟩
  | holdSet hwaiting hholder hmerging =>
    exact ⟨by simp [hmerging, isComparison], by simpa [hwaiting] using hattest, fun _ => ⟨hmerging, rfl⟩⟩
  | scanned hbusy hholder =>
    obtain ⟨hmerging, hwaiting⟩ := hfree hholder
    rw [Hold.release_of_not_waiting hwaiting]
    exact ⟨by simp [Hold.clear, hmerging, isComparison], by simp [Hold.clear, isAttest], by simp [Hold.clear]⟩
  | linkReset hbusy hstate =>
    exact ⟨by simp [Hold.clear, isComparison], by simp [Hold.clear, hbusy, isAttest], by simp [Hold.clear]⟩
  | taken hqueue hhold hmerging hheard hrouted =>
    cases hheard
    cases hrouted with
    | removed hkeys => exact ⟨hintake, hattest, hfree⟩
    | toStu hpoint hroom =>
      exact ⟨by simp [hhold, Hold.clear, isComparison], hattest, by simp [hhold, Hold.clear]⟩
    | toComparison =>
      exact ⟨by simp [isComparison], by simpa [hhold, Hold.clear] using hattest, by simp⟩
  | merged hmerging hholder hmem hsorted hlength hpeers =>
    exact ⟨by simp [hholder, isComparison], hattest, by simp [hholder]⟩
  | compared hmerging hholder =>
    cases hwaiting : L.hold.waiting with
    | true =>
      rw [Hold.release_of_waiting hwaiting]
      exact ⟨by simp [isComparison], by simpa [hwaiting] using hattest, fun _ => ⟨rfl, rfl⟩⟩
    | false =>
      rw [Hold.release_of_not_waiting hwaiting]
      exact ⟨by simp [Hold.clear, isComparison], by simpa [hwaiting, hholder, Hold.clear] using hattest,
        by simp [Hold.clear]⟩
  | same | sheetBegun | defined | started | queued | silenced | ticked => exact ⟨hintake, hattest, hfree⟩

theorem PeerWritten.length {slot : Nat} {before after : List PeerRecord} (h : PeerWritten slot before after) :
    after.length = before.length := by
  rcases h with rfl | ⟨r, rfl, -⟩ <;> simp

theorem timerOk_getD {peers : List PeerRecord} (h : ∀ r ∈ peers, r.TimerOk) (slot : Nat) :
    (peers.getD slot PeerRecord.reset).TimerOk := by
  rw [List.getD_eq_getElem?_getD]
  cases hget : peers[slot]? with
  | none => simp [PeerRecord.TimerOk, PeerRecord.reset]
  | some r => exact h r (List.mem_of_getElem? hget)

theorem PeerWritten.timerOk {slot : Nat} {before after : List PeerRecord} (h : PeerWritten slot before after)
    (hbefore : ∀ r ∈ before, r.TimerOk) : ∀ r ∈ after, r.TimerOk := by
  rcases h with rfl | ⟨q, rfl, hq⟩
  · exact hbefore
  · intro r hr
    rcases List.mem_or_eq_of_mem_set hr with hr | rfl
    · exact hbefore r hr
    · exact hq (timerOk_getD hbefore slot)

/-- A change made in every peer record. -/
theorem timerOk_map {f : PeerRecord → PeerRecord} (hf : ∀ r : PeerRecord, r.TimerOk → (f r).TimerOk) {peers : List PeerRecord}
    (h : ∀ r ∈ peers, r.TimerOk) : ∀ r ∈ peers.map f, r.TimerOk := by
  intro r hr
  obtain ⟨q, hq, rfl⟩ := List.mem_map.1 hr
  exact hf q (h q hq)

theorem PeerRecord.tick_timerOk {r : PeerRecord} (h : r.TimerOk) :
    PeerRecord.TimerOk { r with timer := tickTimer r.timer } := by
  simpa [PeerRecord.TimerOk, tickTimer] using h

theorem PeerRecord.unheard_timerOk (r : PeerRecord) : r.unheard.TimerOk := by
  simp [PeerRecord.TimerOk, PeerRecord.unheard]

theorem Ledger.Step.peersInv {L M : Ledger} (hs : L.Step M) (h : L.PeersInv) : M.PeersInv := by
  obtain ⟨hlength, htimers⟩ := h
  cases hs with
  | linkReset hbusy hstate =>
    exact ⟨by simpa using hlength, timerOk_map (fun r _ => r.unheard_timerOk) htimers⟩
  | taken hqueue hhold hmerging hheard hrouted =>
    cases hheard with
    | intro hkeys hsets hpeers =>
      have := And.intro (hpeers.length.trans hlength) (hpeers.timerOk htimers)
      cases hrouted <;> exact this
  | merged hmerging hholder hmem hsorted hcount hpeers | silenced hpresent hpeers =>
    exact ⟨hpeers.length.trans hlength, hpeers.timerOk htimers⟩
  | ticked => exact ⟨by simpa using hlength, timerOk_map (fun _ => PeerRecord.tick_timerOk) htimers⟩
  | same | sheetBegun | defined | validated | started | accepted | attestAccepted | completed | finalised | restarted
  | holdSet | scanned | queued | compared => exact ⟨hlength, htimers⟩

theorem AttestRecord.disjoint_iff (r : AttestRecord) :
    r.matching &&& r.diverging = 0 ↔ ∀ i, slotIn r.matching i = true → slotIn r.diverging i = false := by
  simp only [slotIn]
  constructor
  · intro h i hi
    have := congrArg (fun set : BitVec 16 => set.getLsbD i) h
    simpa [hi] using this
  · intro h
    ext i hi
    have := h i
    simp_all [BitVec.getLsbD_eq_getElem]

theorem dropMember_disjoint {slot : Nat} {rs : List AttestRecord} (h : ∀ r ∈ rs, r.matching &&& r.diverging = 0) :
    ∀ r ∈ dropMember slot rs, r.matching &&& r.diverging = 0 := by
  intro r hr
  obtain ⟨q, hq, rfl⟩ := List.mem_map.1 hr
  have := q.disjoint_iff.1 (h q hq)
  rw [AttestRecord.disjoint_iff]
  simp_all [slotIn, slotDrop_getLsbD]

/-- A comparison puts the slot in one set and takes it from the other. -/
theorem AttestRecord.compared_disjoint {r : AttestRecord} (h : r.matching &&& r.diverging = 0) (slot : Nat) (equal : Bool) :
    (r.compared slot equal).matching &&& (r.compared slot equal).diverging = 0 := by
  rw [AttestRecord.disjoint_iff] at h ⊢
  intro i
  have := h i
  by_cases hi : i = slot <;> cases equal <;> simp_all [AttestRecord.compared, slotIn, slotAdd_getLsbD, slotDrop_getLsbD]

theorem Ledger.Step.setsDisjoint {L M : Ledger} (hs : L.Step M) (h : L.SetsDisjoint) : M.SetsDisjoint := by
  cases hs with
  | started hstate hbusy hsheet hsets => exact fun r hr => by simp [hsets r hr]
  | restarted hbusy hsets => exact fun r hr => by simp [hsets r hr]
  | taken hqueue hhold hmerging hheard hrouted =>
    cases hheard with
    | @intro keys sets peers hkeys hsets hpeers =>
      have hdisjoint : ∀ r ∈ sets, r.matching &&& r.diverging = 0 := by
        rcases hsets with rfl | rfl
        · exact h
        · exact dropMember_disjoint h
      cases hrouted <;> exact hdisjoint
  | compared hmerging hholder =>
    intro r hr
    obtain ⟨q, hq, rfl⟩ := List.mem_map.1 hr
    split
    · exact AttestRecord.compared_disjoint (h q hq) _ _
    · exact h q hq
  | same | sheetBegun | defined | validated | accepted | attestAccepted | completed | finalised | holdSet | scanned
  | linkReset | queued | merged | silenced | ticked => exact h

/-- An invariant of the ledger that holds after a power-on reset and that each change keeps holds after every step. -/
theorem ledger_preserved {P : Ledger → Prop} (hreset : P State.reset.ledger)
    (hkept : ∀ {L M : Ledger}, L.Step M → P L → P M) {s t : State} (hstep : step s = .next t) (h : P s.ledger) :
    P t.ledger := by
  rcases step_ledger hstep with heq | hs
  · exact heq ▸ hreset
  · exact hkept hs h

/-- Settles O58: each of the three is an invariant of the ledger. -/
theorem holdPeersAndSetsStayConsistent : Obligations.HoldPeersAndSetsStayConsistent := by
  rintro s t ⟨hhold, hpeers, hsets⟩ hstep
  rw [holdInv_iff, peersInv_iff, setsDisjoint_iff] at *
  exact ⟨ledger_preserved ((holdInv_iff _).1 (by decide)) Ledger.Step.holdInv hstep hhold,
    ledger_preserved ((peersInv_iff _).1 (by decide)) Ledger.Step.peersInv hstep hpeers,
    ledger_preserved ((setsDisjoint_iff _).1 (by decide)) Ledger.Step.setsDisjoint hstep hsets⟩

/-! ### Before START every block stays at its power-on values (R22, R90, R138, R147) -/

/-- What `IdleInv` speaks of. -/
def State.blocks (s : State) :
    Stu × FigureTable × BalanceEngine × List AttestRecord × Lau × FrameIntake × List PeerRecord × Publisher × List Notice :=
  (s.stu, s.table, s.balance, s.attest, s.lau, s.intake, s.peers, s.pub, s.notices.pending)

/-- A node that does not take part, its sheet as `SheetInv` says and its blocks at their power-on values. -/
structure State.Idle (s : State) : Prop where
  off : s.running = false
  sheet : SheetInv s
  blocks : s.blocks = State.reset.blocks

theorem idleInv_iff (s : State) : IdleInv s ↔ (s.running = false → s.blocks = State.reset.blocks) := by
  simp only [IdleInv, State.blocks, Prod.mk.injEq]
  rfl

namespace State.Idle

variable {s : State}

theorem stu (h : s.Idle) : s.stu = Stu.reset := congrArg (fun b => b.1) h.blocks

theorem table (h : s.Idle) : s.table = FigureTable.reset := congrArg (fun b => b.2.1) h.blocks

theorem balance (h : s.Idle) : s.balance = BalanceEngine.reset := congrArg (fun b => b.2.2.1) h.blocks

theorem lau (h : s.Idle) : s.lau = Lau.reset := congrArg (fun b => b.2.2.2.2.1) h.blocks

theorem intake (h : s.Idle) : s.intake = FrameIntake.reset := congrArg (fun b => b.2.2.2.2.2.1) h.blocks

theorem peers (h : s.Idle) : s.peers = List.replicate 16 PeerRecord.reset :=
  congrArg (fun b => b.2.2.2.2.2.2.1) h.blocks

theorem pub (h : s.Idle) : s.pub = Publisher.reset := congrArg (fun b => b.2.2.2.2.2.2.2.1) h.blocks

theorem pending (h : s.Idle) : s.notices.pending = [] := congrArg (fun b => b.2.2.2.2.2.2.2.2) h.blocks

theorem line (h : s.Idle) : s.lau.line = .off := by rw [h.lau]; rfl

theorem not_active (h : s.Idle) : s.sheet.node ≠ .active := ((State.not_running_iff s).1 h.off).1

theorem not_final (h : s.Idle) : s.sheet.node ≠ .final := ((State.not_running_iff s).1 h.off).2

/-- The only long operation in flight is a SHEET END. -/
theorem busy (h : s.Idle) {op : LongOp} (hop : op ≠ .sheetEnd) : s.port.busy ≠ some op := by
  intro hbusy
  obtain ⟨-, -, hstate⟩ := h.sheet
  have := hstate op hbusy
  rw [if_neg hop, h.off] at this
  cases this

theorem point? (h : s.Idle) (k : Nat) : s.table.point? k = none := by rw [h.table]; rfl

theorem peer (h : s.Idle) (slot : Nat) : s.peer slot = PeerRecord.reset := by
  rw [State.peer, h.peers, List.getD_eq_getElem?_getD, List.getElem?_replicate]
  split <;> rfl

end State.Idle

/-- An operation that a node before START makes either makes it take part or leaves its blocks at power-on values. -/
def KeepsIdle (op : State → State) : Prop :=
  ∀ s : State, s.Idle → (op s).running = true ∨ (op s).blocks = State.reset.blocks

theorem KeepsIdle.of_blocks {op : State → State} (h : ∀ s : State, (op s).blocks = s.blocks) : KeepsIdle op :=
  fun s hs => .inr ((h s).trans hs.blocks)

/-- An event that is not due changes nothing. -/
theorem KeepsIdle.of_eq {op : State → State} (h : ∀ s : State, s.Idle → op s = s) : KeepsIdle op :=
  fun s hs => .inr ((h s hs).symm ▸ hs.blocks)

/-- A request that is refused in that state. -/
theorem KeepsIdle.of_answer {op : State → State} (code : ResultCode) (h : ∀ s : State, s.Idle → op s = s.answerCode code) :
    KeepsIdle op :=
  fun s hs => .inr ((h s hs).symm ▸ hs.blocks)

theorem KeepsIdle.serveRequest {body : State → State} (h : KeepsIdle body) : KeepsIdle (State.serveRequest body) := by
  intro s hs
  unfold State.serveRequest
  split
  · exact .inr hs.blocks
  · exact h s.newSelection ⟨hs.off, hs.sheet, hs.blocks⟩

theorem KeepsIdle.takeRequest {body : State → State} (h : KeepsIdle body) : KeepsIdle (State.takeRequest body) := by
  refine KeepsIdle.serveRequest fun s hs => ?_
  split
  · exact .inr hs.blocks
  · exact h s hs

theorem KeepsIdle.answer (code : ResultCode) (data : State → List Byte) :
    KeepsIdle (State.serveRequest (fun s => s.answer code (data s))) :=
  KeepsIdle.serveRequest (.of_blocks fun _ => rfl)

/-! #### Requests -/

theorem State.sheetBegin_blocks (h : Option Header) (s : State) : (s.sheetBegin h).blocks = s.blocks := by
  unfold State.sheetBegin
  split
  · rfl
  · split <;> rfl

theorem State.define_blocks (change : Option (Sheet → Sheet)) (s : State) : (s.define change).blocks = s.blocks := by
  unfold State.define
  split
  · rfl
  · split <;> rfl

theorem State.sheetEnd_blocks (s : State) : s.sheetEnd.blocks = s.blocks := by
  unfold State.sheetEnd
  split <;> rfl

theorem State.sheetEndComplete_blocks (s : State) : s.sheetEndComplete.blocks = s.blocks := by
  unfold State.sheetEndComplete
  split
  · dsimp only
    split <;> rfl
  · rfl

theorem State.start_keepsIdle : KeepsIdle State.start := by
  intro s hs
  unfold State.start
  split
  · exact .inl (State.running_of_active rfl)
  · exact .inr hs.blocks

theorem State.post_keepsIdle (point epoch : Nat) (raw : RawFigures) : KeepsIdle (State.post point epoch raw) :=
  .of_answer .state fun s hs => by simp [State.post, State.checkPost, hs.not_final, hs.not_active]

theorem State.withdraw_keepsIdle (point : Nat) : KeepsIdle (State.withdraw point) :=
  .of_answer .state fun s hs => by simp [State.withdraw, State.checkWithdraw, hs.not_final, hs.not_active]

theorem State.finalise_keepsIdle : KeepsIdle State.finalise :=
  .of_answer .state fun s hs => by simp [State.finalise, hs.not_final, hs.not_active]

theorem State.setPermit_keepsIdle (value : Bool) : KeepsIdle (State.setPermit value) :=
  .of_answer .state fun s hs => by simp [State.setPermit, hs.off]

theorem State.attestRequest_keepsIdle (parcel epoch : Nat) : KeepsIdle (State.attestRequest parcel epoch) :=
  .of_answer .state fun s hs => by simp [State.attestRequest, hs.off]

theorem State.restart_keepsIdle : KeepsIdle State.restart :=
  .of_answer .state fun s hs => by simp [State.restart, hs.off]

theorem State.linkReset_keepsIdle : KeepsIdle State.linkReset :=
  .of_answer .state fun s hs => by simp [State.linkReset, hs.off]

theorem State.readPoint_keepsIdle (k : Nat) : KeepsIdle (State.readPoint k) :=
  .of_answer .state fun s hs => by simp [State.readPoint, hs.off]

theorem State.readEntry_keepsIdle (form first second : Nat) : KeepsIdle (State.readEntry form first second) :=
  .of_answer .state fun s hs => by simp [State.readEntry, hs.off]

theorem State.readParcel_keepsIdle (p : Nat) : KeepsIdle (State.readParcel p) :=
  .of_answer .state fun s hs => by simp [State.readParcel, hs.off]

theorem State.readAttest_keepsIdle (p epoch : Nat) : KeepsIdle (State.readAttest p epoch) :=
  .of_answer .state fun s hs => by simp [State.readAttest, hs.off]

theorem State.walk_keepsIdle (index : Nat) : KeepsIdle (State.walk index) :=
  .of_answer .state fun s hs => by simp [State.walk, hs.off]

theorem State.readPeer_blocks (slot : Nat) (s : State) : (s.readPeer slot).blocks = s.blocks := by
  unfold State.readPeer
  split <;> rfl

theorem State.noticeEnable_blocks (kind setting : Nat) (s : State) : (s.noticeEnable kind setting).blocks = s.blocks := by
  unfold State.noticeEnable
  split <;> rfl

theorem State.edgeSelect_blocks (parcel setting : Nat) (s : State) : (s.edgeSelect parcel setting).blocks = s.blocks := by
  unfold State.edgeSelect
  split
  · rfl
  · rfl
  · split <;> rfl

theorem State.watchAdd_blocks (slot point : Nat) (s : State) : (s.watchAdd slot point).blocks = s.blocks := by
  unfold State.watchAdd
  split
  · rfl
  · split
    · rfl
    · split <;> rfl

theorem State.watchRemove_blocks (slot point : Nat) (s : State) : (s.watchRemove slot point).blocks = s.blocks := by
  unfold State.watchRemove
  split
  · rfl
  · split <;> rfl

theorem State.acknowledge_keepsIdle (kind subject : Nat) : KeepsIdle (State.acknowledge kind subject) := by
  intro s hs
  refine .inr (Eq.trans ?_ hs.blocks)
  unfold State.acknowledge
  split
  · rfl
  · split
    · rfl
    · simp only [hs.pending, List.any_nil]
      rfl

theorem State.earlyDeselection_blocks (bits : Nat) (s : State) : (s.earlyDeselection bits).blocks = s.blocks := by
  unfold State.earlyDeselection
  split
  · rfl
  · split
    · rfl
    · dsimp only
      split <;> rfl

theorem State.resetReleased_blocks (selLow : Bool) (s : State) : (s.resetReleased selLow).blocks = s.blocks := by
  unfold State.resetReleased
  split <;> rfl

theorem State.walkNext_blocks (s : State) : s.walkNext.blocks = s.blocks := by
  unfold State.walkNext
  split
  · rfl
  · split <;> rfl

/-! #### Events that are not due (log 1) -/

namespace State.Idle

variable {s : State}

theorem stuGrant (h : s.Idle) : { s with stu := s.stu.grant } = s := by
  have : s.stu.grant = s.stu := by rw [h.stu]; rfl
  rw [this]

theorem stuComputed (h : s.Idle) : s.stuComputed = s := by
  simp [State.stuComputed, h.stu, Stu.reset]

theorem postStore (h : s.Idle) : s.postStore = s := by
  unfold State.postStore
  split
  · next hresult =>
    rw [h.table] at hresult
    cases hresult
  · rfl

theorem withdrawalMade (h : s.Idle) : s.withdrawalMade = s := by
  unfold State.withdrawalMade
  split
  · rw [h.point?]
  · rfl

theorem finaliseMade (h : s.Idle) : s.finaliseMade = s :=
  if_neg fun hdue => h.busy (by simp) hdue.1

theorem restartChange (h : s.Idle) : s.restartChange = s :=
  if_neg fun hdue => h.busy (by simp) hdue.1

theorem intakeHoldSet (h : s.Idle) : s.intakeHoldSet = s :=
  if_neg fun hdue => by simp [h.table, FigureTable.reset, Hold.clear] at hdue

theorem attestScanComplete (h : s.Idle) : s.attestScanComplete = s := by
  unfold State.attestScanComplete
  split
  · next hbusy _ => exact absurd hbusy (h.busy (by simp))
  · rfl

theorem comparisonComplete (h : s.Idle) : s.comparisonComplete = s := by
  unfold State.comparisonComplete
  split
  · next hmerging _ =>
    rw [h.intake] at hmerging
    cases hmerging
  · rfl

theorem frameMerge (h : s.Idle) : s.frameMerge = s := by
  unfold State.frameMerge
  split
  · next hmerging _ =>
    rw [h.intake] at hmerging
    cases hmerging
  · rfl

theorem takeFrame (h : s.Idle) : s.takeFrame = s := by
  simp [State.takeFrame, h.intake, FrameIntake.reset]

theorem balanceTake (h : s.Idle) : s.balanceTake = s := by
  simp [State.balanceTake, h.balance, BalanceEngine.reset]

theorem balanceComplete (h : s.Idle) : s.balanceComplete = s := by
  simp [State.balanceComplete, h.balance, BalanceEngine.reset]

theorem silenceExpired (h : s.Idle) (slot : Nat) : s.silenceExpired slot = s := by
  simp [State.silenceExpired, h.peer, PeerRecord.reset]

theorem presenceExpired (h : s.Idle) : { s with pub := s.pub.presenceExpired } = s := by
  have : s.pub.presenceExpired = s.pub := by rw [h.pub]; rfl
  rw [this]

theorem republishExpired (h : s.Idle) : s.republishExpired = s := by
  simp [State.republishExpired, h.pub, Publisher.reset]

/-- An event of the LAU that changes nothing while it is OFF. -/
theorem mapLau (h : s.Idle) {f : Lau → Lau} (hf : f Lau.reset = Lau.reset) : s.mapLau f = s := by
  have : f s.lau = s.lau := by rw [h.lau, hf]
  rw [State.mapLau, this]

theorem turnGap (h : s.Idle) : s.turnGap = s := by
  simp [State.turnGap, Lau.ownTurn, h.line]

theorem sendComplete (h : s.Idle) (stopDominant : Bool) : s.sendComplete stopDominant = s := by
  simp [State.sendComplete, h.line]

theorem clash (h : s.Idle) : s.clash = s := by
  simp [State.clash, h.line]

theorem clashMarkEnd (h : s.Idle) : s.clashMarkEnd = s := by
  simp [State.clashMarkEnd, h.line]

theorem frameReceived (h : s.Idle) (bytes : List Byte) : s.frameReceived bytes = s := by
  simp [State.frameReceived, h.line]

theorem tick (h : s.Idle) : s.tick = s := by
  have hlau : s.lau.tick = s.lau := by rw [h.lau]; rfl
  have hpeers : s.peers.map (fun r => { r with timer := tickTimer r.timer }) = s.peers := by
    rw [h.peers, List.map_replicate]; rfl
  have hpub : ({ s.pub with presenceTimer := tickTimer s.pub.presenceTimer
                            republishTimer := tickTimer s.pub.republishTimer } : Publisher) = s.pub := by
    rw [h.pub]; rfl
  rw [State.tick, hlau, hpeers, hpub]

end State.Idle

/-! #### Every step -/

theorem exec_keepsIdle (c : Instr) : KeepsIdle (fun s => s.after c) := by
  cases c with
  | powerOnReset byInput => exact fun s _ => .inr rfl
  | unknownRequest code =>
    show KeepsIdle (fun s => if (paramBytes code).isNone then s.serveRequest (State.answerCode .unknown) else s)
    split
    · exact .answer .unknown fun _ => []
    · exact .of_blocks fun _ => rfl
  | earlyDeselection bits => exact .of_blocks (State.earlyDeselection_blocks bits)
  | status => exact .answer .done State.statusBytes
  | identify => exact .answer .done fun _ => identifyBytes
  | sheetBegin number revision ownSlot direction amendMode silence republish =>
    exact .takeRequest (.of_blocks (State.sheetBegin_blocks _))
  | sheetParcel parcel tRef a b d vef inner outer custody => exact .takeRequest (.of_blocks (State.define_blocks _))
  | sheetRoster slot role => exact .takeRequest (.of_blocks (State.define_blocks _))
  | sheetPoint point parcel meterFactor => exact .takeRequest (.of_blocks (State.define_blocks _))
  | sheetEnd => exact .takeRequest (.of_blocks State.sheetEnd_blocks)
  | sheetEndComplete => exact .of_blocks State.sheetEndComplete_blocks
  | start => exact .takeRequest State.start_keepsIdle
  | post point epoch quantity water temperature => exact .takeRequest (State.post_keepsIdle _ _ _)
  | stuGrant => exact .of_eq fun _ hs => hs.stuGrant
  | stuObservationComputed => exact .of_eq fun _ hs => hs.stuComputed
  | postStore => exact .of_eq fun _ hs => hs.postStore
  | permit => exact .takeRequest (State.setPermit_keepsIdle true)
  | revoke => exact .takeRequest (State.setPermit_keepsIdle false)
  | withdraw point => exact .takeRequest (State.withdraw_keepsIdle _)
  | withdrawalMade => exact .of_eq fun _ hs => hs.withdrawalMade
  | finalise => exact .takeRequest State.finalise_keepsIdle
  | finaliseMade => exact .of_eq fun _ hs => hs.finaliseMade
  | attest parcel epoch => exact .takeRequest (State.attestRequest_keepsIdle _ _)
  | intakeHoldSet => exact .of_eq fun _ hs => hs.intakeHoldSet
  | attestScanComplete => exact .of_eq fun _ hs => hs.attestScanComplete
  | restart => exact .takeRequest State.restart_keepsIdle
  | restartChange => exact .of_eq fun _ hs => hs.restartChange
  | linkReset => exact .takeRequest State.linkReset_keepsIdle
  | serviceQuery => exact .answer .done _
  | acknowledge kind subject => exact .takeRequest (State.acknowledge_keepsIdle _ _)
  | noticeEnable kind setting => exact .takeRequest (.of_blocks (State.noticeEnable_blocks _ _))
  | edgeSelect parcel setting => exact .takeRequest (.of_blocks (State.edgeSelect_blocks _ _))
  | watchAdd slot point => exact .takeRequest (.of_blocks (State.watchAdd_blocks _ _))
  | watchRemove slot point => exact .takeRequest (.of_blocks (State.watchRemove_blocks _ _))
  | readPoint point => exact .serveRequest (State.readPoint_keepsIdle _)
  | readEntry form first second => exact .serveRequest (State.readEntry_keepsIdle _ _ _)
  | readParcel parcel => exact .serveRequest (State.readParcel_keepsIdle _)
  | readAttest parcel epoch => exact .serveRequest (State.readAttest_keepsIdle _ _)
  | readPeer slot => exact .serveRequest (.of_blocks (State.readPeer_blocks _))
  | readCounters => exact .answer .done State.counterBytes
  | readNotices => exact .answer .done _
  | walk index => exact .serveRequest (State.walk_keepsIdle _)
  | walkRecordTaken => exact .of_blocks State.walkNext_blocks
  | walkDeselected => exact .of_blocks fun _ => rfl
  | quiet => exact .of_eq fun _ hs => hs.mapLau rfl
  | claimDecision => exact .of_eq fun _ hs => hs.mapLau rfl
  | windowEnd => exact .of_eq fun _ hs => hs.mapLau rfl
  | turnGap => exact .of_eq fun _ hs => hs.turnGap
  | turnTimeout => exact .of_eq fun _ hs => hs.mapLau rfl
  | sendComplete stopDominant => exact .of_eq fun _ hs => hs.sendComplete stopDominant
  | clash => exact .of_eq fun _ hs => hs.clash
  | clashMarkEnd => exact .of_eq fun _ hs => hs.clashMarkEnd
  | receptionFailed => exact .of_eq fun s hs => if_neg (by simp [hs.line])
  | frameReceived bytes => exact .of_eq fun _ hs => hs.frameReceived bytes
  | intakeTakeFrame => exact .of_eq fun _ hs => hs.takeFrame
  | frameMerge => exact .of_eq fun _ hs => hs.frameMerge
  | comparisonComplete => exact .of_eq fun _ hs => hs.comparisonComplete
  | balanceTake => exact .of_eq fun _ hs => hs.balanceTake
  | balanceComplete => exact .of_eq fun _ hs => hs.balanceComplete
  | silenceTimerExpiry slot => exact .of_eq fun _ hs => hs.silenceExpired slot.toNat
  | presenceTimerExpiry => exact .of_eq fun _ hs => hs.presenceExpired
  | republishTimerExpiry => exact .of_eq fun _ hs => hs.republishExpired
  | dominantLevelRead startBit => exact .of_eq fun _ hs => hs.mapLau rfl
  | claimSlotSample slot dominant => exact .of_eq fun _ hs => hs.mapLau rfl
  | resetReleased selLow => exact .of_blocks (State.resetReleased_blocks selLow)

/-- A node that takes part goes on doing so; only a power-on reset ends it (R140). -/
theorem Ledger.Step.running {L M : Ledger} (hs : L.Step M) (hsheet : L.SheetInv) (h : L.running = true) :
    M.running = true := by
  obtain ⟨-, -, hop⟩ := hsheet
  cases hs with
  | sheetBegun hstate hbusy hrange => simp [hstate] at h
  | defined hstate hbusy hok => simp [Ledger.running, hstate] at h
  | validated hbusy hheld hnode =>
    have hloading : L.sheet.node = .loading := by simpa using hop _ hbusy
    simp [Ledger.running, hloading] at h
  | started | finalised | restarted => simp [Ledger.running]
  | taken hqueue hhold hmerging hheard hrouted =>
    cases hheard
    cases hrouted <;> exact h
  | same | accepted | attestAccepted | completed | holdSet | scanned | linkReset | queued | merged | compared | silenced
  | ticked => exact h

theorem sheetInv_step {s t : State} (hstep : step s = .next t) (h : SheetInv s) : SheetInv t := by
  rw [sheetInv_iff] at *
  exact ledger_preserved ((sheetInv_iff _).1 (by decide)) Ledger.Step.sheetInv hstep h

theorem idleInv_step {s t : State} (hstep : step s = .next t) (hsheet : SheetInv s) (h : IdleInv s) : IdleInv t := by
  rw [idleInv_iff] at *
  intro hoff
  rcases step_cases hstep with ⟨-, rfl⟩ | ⟨c, rest, -, hexec⟩
  · have hidle : s.Idle := ⟨hoff, hsheet, h hoff⟩
    rw [hidle.tick]
    exact hidle.blocks
  · rw [exec_next, Host.Outcome.next.injEq] at hexec
    subst hexec
    cases hrunning : s.running with
    | false =>
      rcases exec_keepsIdle c { s with pending := rest } ⟨hrunning, hsheet, h hrunning⟩ with hon | hblocks
      · rw [hon] at hoff
        cases hoff
      · exact hblocks
    | true =>
      by_cases hc : ∃ byInput, c = .powerOnReset byInput
      · obtain ⟨byInput, rfl⟩ := hc
        rfl
      · have hs := exec_ledgerStep (fun byInput heq => hc ⟨byInput, heq⟩) { s with pending := rest }
        rw [← State.ledger_running, hs.running ((sheetInv_iff s).1 hsheet) hrunning] at hoff
        cases hoff

theorem tableInv_step {s t : State} (hstep : step s = .next t) (h : TableInv s) : TableInv t := by
  rw [tableInv_iff] at *
  exact ledger_preserved ((tableInv_iff _).1 (by decide)) Ledger.Step.tableInv hstep h

theorem ownSlotInv_step {s t : State} (hstep : step s = .next t) (h : OwnSlotInv s) : OwnSlotInv t := by
  rw [ownSlotInv_iff] at *
  obtain ⟨hsheet, hidle, hown⟩ := h
  refine ⟨sheetInv_step hstep hsheet, idleInv_step hstep hsheet hidle, ?_⟩
  rcases step_ledger hstep with heq | hs
  · exact heq ▸ Ledger.Blank.ownUnheard ⟨rfl, rfl, rfl, rfl, rfl⟩
  · exact hs.ownUnheard hidle.ledger_blank hown

/-- Settles O56: the table's keys and the own slot's absence are invariants of the ledger; where a sheet is loaded the ledger
is that of a node before START. -/
theorem tableKeepsItsKeysOrderAndCapacity : Obligations.TableKeepsItsKeysOrderAndCapacity := by
  rintro s t ⟨htable, hown⟩ hstep
  exact ⟨tableInv_step hstep htable, ownSlotInv_step hstep hown⟩

end Sys2Proof.Machine
end

section
/-! PROOFS. Own figures: the settings, FINALISE, WITHDRAW and POST (02 section 2.3; 08 sections 8.3, 8.5). -/

namespace Sys2Proof.Machine

/-! ### Requests at an idle port -/

theorem exec_request_idle {s : State} (h : s.portIdle) (body : State → State) :
    (.next (s.takeRequest body) : Host.Outcome State Fault Refusal) = .next (body s.newSelection) := by
  rw [State.takeRequest_idle h]

/-! ### PERMIT, REVOKE, NOTICE ENABLE and EDGE SELECT (R32, R146, R151) -/

theorem State.newSelection_setPermit (value : Bool) (s : State) :
    s.newSelection.setPermit value = s.checked [(decide (s.sheet.node ≠ .active ∧ s.sheet.node ≠ .final), .state)]
      { s.answered .done [] with table := { s.table with permit := value && decide (s.amendMode ≠ .none) } } := by
  rw [State.checked_cons, State.checked_nil]
  unfold State.setPermit
  rw [State.newSelection_running, State.newSelection_answerCode, State.newSelection_answerCode]
  cases hrunning : s.running with
  | true => rw [if_pos rfl, if_neg (by simpa [State.running_iff, imp_iff_not_or] using hrunning)]; rfl
  | false => rw [if_neg Bool.false_ne_true, if_pos (by simpa [State.not_running_iff] using hrunning)]

theorem NoticeKind.ofNumber_of_le {n : Nat} (h : n ≤ 10) : ∃ k, NoticeKind.ofNumber n = some k ∧ k.number = n := by
  interval_cases n <;> exact ⟨_, rfl, rfl⟩

theorem NoticeKind.ofNumber_of_gt {n : Nat} (h : 10 < n) : NoticeKind.ofNumber n = none := by
  obtain ⟨m, rfl⟩ := Nat.exists_eq_add_of_le' h
  rfl

/-- The enable mask with one bit set or cleared; a bit above the mask changes nothing. -/
def enablesWith (enables : BitVec 11) (bit : Nat) (on : Bool) : BitVec 11 :=
  if on then enables ||| BitVec.ofNat 11 (2 ^ bit) else enables &&& ~~~ BitVec.ofNat 11 (2 ^ bit)

theorem NoticeUnit.setEnable_eq (k : NoticeKind) (on : Bool) (n : NoticeUnit) :
    n.setEnable k on = { n with enables := enablesWith n.enables k.number on } := rfl

theorem enablesWith_getLsbD (enables : BitVec 11) (bit : Nat) (on : Bool) {i : Nat} (hi : i < 11) :
    (enablesWith enables bit on).getLsbD i = if i = bit then on else enables.getLsbD i := by
  have hbit : (BitVec.ofNat 11 (2 ^ bit)).getLsbD i = decide (i = bit) := by
    simp only [BitVec.getLsbD_ofNat, Nat.testBit_two_pow, hi, decide_true, Bool.true_and, eq_comm]
  cases on with
  | true =>
    simp only [enablesWith, if_true, BitVec.getLsbD_or, hbit]
    by_cases h : i = bit <;> simp [h]
  | false =>
    simp only [enablesWith, Bool.false_eq_true, if_false, BitVec.getLsbD_and, BitVec.getLsbD_not, hbit]
    by_cases h : i = bit <;> simp [h, hi]

theorem State.noticeEnable_of_refused {kind setting : Nat} (h : 10 < kind ∨ 1 < setting) (s : State) :
    s.noticeEnable kind setting = s.answerCode .range := by
  rcases h with h | h
  · simp [State.noticeEnable, NoticeKind.ofNumber_of_gt h]
  · obtain ⟨m, rfl⟩ := Nat.exists_eq_add_of_le' h
    cases hkind : NoticeKind.ofNumber kind <;> simp [State.noticeEnable, hkind]

theorem State.noticeEnable_of_taken {kind setting : Nat} (hkind : kind ≤ 10) (hsetting : setting ≤ 1) (s : State) :
    s.noticeEnable kind setting = { s.answerCode .done with
      notices := { s.notices with enables := enablesWith s.notices.enables kind (decide (setting = 1)) } } := by
  obtain ⟨k, hk, hnumber⟩ := NoticeKind.ofNumber_of_le hkind
  interval_cases setting <;> simp [State.noticeEnable, hk, NoticeUnit.setEnable_eq, hnumber]

theorem State.newSelection_noticeEnable (kind setting : Nat) (s : State) :
    s.newSelection.noticeEnable kind setting = s.checked [(decide (10 < kind ∨ 1 < setting), .range)]
      { s.answered .done [] with
        notices := { s.notices with enables := enablesWith s.notices.enables kind (decide (setting = 1)) } } := by
  rw [State.checked_cons, State.checked_nil]
  by_cases h : 10 < kind ∨ 1 < setting
  · rw [if_pos (decide_eq_true h), State.noticeEnable_of_refused h]
    rfl
  · rw [if_neg (by simpa using h), State.noticeEnable_of_taken (by omega) (by omega)]
    rfl

theorem EdgeSelect.ofCode_of_le {n : Nat} (h : n ≤ 3) :
    EdgeSelect.ofCode n = some ([EdgeSelect.worse, .better, .both, .none].getD n .worse) := by
  interval_cases n <;> rfl

theorem EdgeSelect.ofCode_of_gt {n : Nat} (h : 3 < n) : EdgeSelect.ofCode n = Option.none := by
  obtain ⟨m, rfl⟩ := Nat.exists_eq_add_of_le' h
  rfl

theorem parcelInRange_iff (p : Nat) : parcelInRange p = true ↔ 1 ≤ p ∧ p ≤ 8 := by
  simp [parcelInRange, inRange]

theorem State.edgeSelect_of_refused {parcel setting : Nat} (h : parcel < 1 ∨ 8 < parcel ∨ 3 < setting) (s : State) :
    s.edgeSelect parcel setting = s.answerCode .range := by
  by_cases hsetting : 3 < setting
  · simp [State.edgeSelect, EdgeSelect.ofCode_of_gt hsetting]
  · have hparcel : parcelInRange parcel = false := by
      rw [Bool.eq_false_iff, Ne, parcelInRange_iff]
      omega
    simp [State.edgeSelect, EdgeSelect.ofCode_of_le (Nat.le_of_not_lt hsetting), hparcel]

theorem State.edgeSelect_of_inRange {parcel setting : Nat} (hparcel : 1 ≤ parcel ∧ parcel ≤ 8) (hsetting : setting ≤ 3)
    (s : State) :
    s.edgeSelect parcel setting = if s.running && !s.parcelDefined parcel then s.answerCode .noParcel else
      { s.answerCode .done with notices := { s.notices with
        edges := s.notices.edges.set (parcel - 1) ([EdgeSelect.worse, .better, .both, .none].getD setting .worse) } } := by
  simp only [State.edgeSelect, EdgeSelect.ofCode_of_le hsetting, (parcelInRange_iff parcel).2 hparcel]

/-- The node takes part and its sheet does not define the parcel, as R151 puts it. -/
theorem State.running_and_not_parcelDefined_iff (s : State) (parcel : Nat) :
    (s.running && !s.parcelDefined parcel) = true ↔ (s.sheet.node = .active ∨ s.sheet.node = .final)
      ∧ ∀ sh ∈ s.sheet.sheet, ∀ d ∈ sh.parcels, d.number ≠ parcel := by
  rw [Bool.and_eq_true, State.running_iff, Bool.not_eq_true', Bool.eq_false_iff, Ne, State.parcelDefined_iff]
  simp

theorem State.newSelection_edgeSelect (parcel setting : Nat) (s : State) :
    s.newSelection.edgeSelect parcel setting = s.checked
      [ (decide (parcel < 1 ∨ 8 < parcel ∨ 3 < setting), .range),
        (decide ((s.sheet.node = .active ∨ s.sheet.node = .final)
          ∧ ∀ sh ∈ s.sheet.sheet, ∀ d ∈ sh.parcels, d.number ≠ parcel), .noParcel) ]
      { s.answered .done [] with notices := { s.notices with
        edges := s.notices.edges.set (parcel - 1) ([EdgeSelect.worse, .better, .both, .none].getD setting .worse) } } := by
  rw [State.checked_cons, State.checked_cons, State.checked_nil]
  by_cases h : parcel < 1 ∨ 8 < parcel ∨ 3 < setting
  · rw [if_pos (decide_eq_true h), State.edgeSelect_of_refused h]
    rfl
  · rw [if_neg (by simpa using h), State.edgeSelect_of_inRange (by omega) (by omega)]
    simp only [← State.running_and_not_parcelDefined_iff, Bool.decide_eq_true]
    rfl

/-- Settles O15: each of the four requests by its refusals in order. -/
theorem settingRequests : Obligations.SettingRequests := by
  refine ⟨fun s h => ?_, fun s h => ?_, fun kind setting s h => ?_, fun parcel setting s h => ?_⟩
  · exact (exec_request_idle h _).trans (congrArg _ (s.newSelection_setPermit true))
  · exact (exec_request_idle h _).trans (congrArg _ (s.newSelection_setPermit false))
  · have hsetting : decide (setting.toNat = 1) = decide (setting = 1) := by
      simp [BitVec.toNat_eq]
    refine ⟨enablesWith s.notices.enables kind.toNat (decide (setting = 1)), ?_,
      fun i hi => enablesWith_getLsbD _ _ _ hi⟩
    rw [← hsetting]
    exact (exec_request_idle h _).trans (congrArg _ (s.newSelection_noticeEnable kind.toNat setting.toNat))
  · exact (exec_request_idle h _).trans (congrArg _ (s.newSelection_edgeSelect parcel.toNat setting.toNat))

/-! ### FINALISE (R34, R36) -/

theorem FigureTable.not_complete_iff (t : FigureTable) :
    (!t.complete) = decide (∃ p ∈ t.own, p.withdrawn = false ∧ p.slots.closing = none) := by
  rw [Bool.eq_iff_iff]
  simp [FigureTable.complete]

theorem State.newSelection_finalise (s : State) :
    s.newSelection.finalise = s.checked
      [ (decide (s.sheet.node = .final), .finalised), (decide (s.sheet.node ≠ .active), .state),
        (decide (∃ p ∈ s.table.own, p.withdrawn = false ∧ p.slots.closing = none), .incomplete) ]
      (s.accepted .finalise) := by
  simp only [State.checked_cons, State.checked_nil, ← FigureTable.not_complete_iff, decide_eq_true_eq]
  rfl

/-- Raising every own point to the highest level is one change if any was below it. -/
theorem FigureTable.protect_throughClosing (t : FigureTable) :
    t.protect .throughClosing (fun _ => true) = { t with
      own := t.own.map (fun p => { p with protection := .throughClosing })
      changeCount := if ∃ p ∈ t.own, p.protection ≠ .throughClosing then t.changeCount + 1 else t.changeCount } := by
  have hraised : t.own.map (fun p => if true = true then { p with protection := p.protection.raised .throughClosing } else p)
      = t.own.map (fun p => { p with protection := .throughClosing }) := by
    simp [Protection.raised_throughClosing]
  have hsame : t.own.map (fun p => { p with protection := .throughClosing }) = t.own
      ↔ ¬ ∃ p ∈ t.own, p.protection ≠ .throughClosing := by
    have hmap := List.map_inj_left (l := t.own) (f := fun p => { p with protection := .throughClosing }) (g := id)
    rw [List.map_id] at hmap
    rw [hmap]
    push Not
    refine forall₂_congr fun p _ => ⟨fun h => ?_, fun h => ?_⟩
    · rw [← id_eq p, ← h]
    · rw [id, ← h]
  rcases t.protect_cases .throughClosing (fun _ => true) with ⟨hown, h⟩ | ⟨hown, h⟩ <;> rw [hraised] at hown
  · rw [h, if_neg (hsame.1 hown), hown]
  · rw [h, if_pos (not_not.1 (mt hsame.2 hown)), hraised]
    rfl

theorem State.finaliseMade_of_due {s : State} (hbusy : s.port.busy = some .finalise)
    (hhold : s.table.hold = { holder := none, waiting := false }) :
    s.finaliseMade = ((({ s with
      table := s.table.protect .throughClosing (fun _ => true), sheet := { s.sheet with node := .final } } : State).give
        .presence).requestAll s.sheetParcels).complete .done :=
  if_pos ⟨hbusy, (Hold.isClear_iff _).2 hhold⟩

theorem Hold.not_isClear {h : Hold} (hset : h.holder ≠ none ∨ h.waiting = true) : h.isClear = false := by
  rw [Bool.eq_false_iff, Ne, Hold.isClear_iff]
  rintro rfl
  simp at hset

/-- Settles O17: the checks of R36, the change with its fan-out, and the wait for the hold. -/
theorem finaliseProtectsAndEndsTheTransfer : Obligations.FinaliseProtectsAndEndsTheTransfer := by
  refine ⟨fun s h => ?_, fun s hbusy hhold => ?_, fun s hset => ?_⟩
  · exact (exec_request_idle h _).trans (congrArg _ s.newSelection_finalise)
  · show Host.Outcome.next s.finaliseMade = _
    rw [State.finaliseMade_of_due hbusy hhold, FigureTable.protect_throughClosing]
    rfl
  · exact congrArg _ (if_neg fun hdue => by simp [Hold.not_isClear hset] at hdue)

/-! ### WITHDRAW (R33) -/

/-- A check's outcome: the refusal found, or what is taken. -/
def orRefuse {α : Type} (refusal : Option ResultCode) (taken : α) : Except ResultCode α :=
  match refusal with
  | some code => .error code
  | none => .ok taken

theorem orRefuse_nil {α : Type} (taken : α) : orRefuse (firstRefusal []) taken = .ok taken := rfl

theorem orRefuse_cons {α : Type} (b : Bool) (code : ResultCode) (rest : List (Bool × ResultCode)) (taken : α) :
    orRefuse (firstRefusal ((b, code) :: rest)) taken =
      if b then .error code else orRefuse (firstRefusal rest) taken := by
  cases b <;> rfl

/-- The refusals of R33's table. -/
def State.withdrawRefusals (s : State) (point : Nat) : List (Bool × ResultCode) :=
  let found := s.table.own.find? (fun p => decide (p.number = point))
  [ (decide (s.sheet.node = .final), .finalised), (decide (s.sheet.node ≠ .active), .state),
    (found.isNone, .noPoint), (found.any (·.withdrawn), .withdrawn),
    (found.any (fun p => decide (p.protection ≠ .none)), .isProtected),
    (decide (s.amendMode ≠ .none) && !s.table.permit, .noPermit) ]

theorem State.checkWithdraw_eq (point : Nat) (s : State) :
    s.checkWithdraw point = orRefuse (firstRefusal (s.withdrawRefusals point)) () := by
  simp only [State.withdrawRefusals, orRefuse_cons, orRefuse_nil, State.checkWithdraw, FigureTable.point?,
    decide_eq_true_eq]
  cases s.table.own.find? (fun p => decide (p.number = point)) with
  | none => rfl
  | some p => simp [State.lacksPermit]

theorem State.newSelection_withdraw (point : Nat) (s : State) :
    s.newSelection.withdraw point = s.checked (s.withdrawRefusals point) (s.accepted (.withdraw point)) := by
  have hcheck : s.newSelection.checkWithdraw point = orRefuse (firstRefusal (s.withdrawRefusals point)) () :=
    s.newSelection.checkWithdraw_eq point
  unfold State.withdraw State.checked
  rw [hcheck]
  cases firstRefusal (s.withdrawRefusals point) <;> rfl

/-! ### The fan-out of a change of an own point (R31, R33, R85) -/

theorem foldl_markAttest (p : Nat) (es : List Epoch) (rs : List AttestRecord) :
    es.foldl (fun rs e => markAttest p e rs) rs =
      rs.map (fun r => if r.parcel = p ∧ r.epoch ∈ es then { r with changedSince := true } else r) := by
  induction es generalizing rs with
  | nil => simp
  | cons e es ih =>
    rw [List.foldl_cons, ih, markAttest, List.map_map]
    refine List.map_congr_left fun r _ => ?_
    by_cases hp : r.parcel = p
    · by_cases he : r.epoch = e <;> simp [hp, he]
    · simp [hp]

theorem mem_attestedEpochs_iff (e : Epoch) : e ∈ attestedEpochs ↔ e ≠ .interim := by cases e <;> decide

/-- The marks for the attested epochs among some (R85), said of each record. -/
theorem State.markEpochs_attest (p : Nat) (es : List Epoch) (s : State) :
    (s.markEpochs p es).attest = s.attest.map (fun r =>
      if r.parcel = p ∧ r.epoch ≠ .interim ∧ r.epoch ∈ es then { r with changedSince := true } else r) := by
  simp only [State.markEpochs, foldl_markAttest, List.mem_filter, decide_eq_true_eq, mem_attestedEpochs_iff]

theorem mem_heldEpochs_iff {α : Type} (slots : Slots α) (e : Epoch) : e ∈ heldEpochs slots ↔ (slots.get e).isSome = true := by
  cases e <;> simp [heldEpochs, Epoch.inOrder]

theorem State.eq_of_fields {s t : State} (hsheet : s.sheet = t.sheet) (hstu : s.stu = t.stu) (htable : s.table = t.table)
    (hbalance : s.balance = t.balance) (hattest : s.attest = t.attest) (hlau : s.lau = t.lau)
    (hintake : s.intake = t.intake) (hpeers : s.peers = t.peers) (hpub : s.pub = t.pub) (hnotices : s.notices = t.notices)
    (hport : s.port = t.port) (hreset : s.resetAsserted = t.resetAsserted) (hfree : s.freeIx = t.freeIx)
    (hpending : s.pending = t.pending) : s = t := by
  cases s
  cases t
  simp_all

/-- An own point's change, given out: POINT k, the parcel's recompute, LIMIT, WATCH, the marks, and the completion. -/
def State.ownChangeGiven (k parcel : Nat) (limited : Bool) (es : List Epoch) (s : State) : State :=
  let s := ((s.give (.point k)).request parcel).raiseIf limited .limit parcel
  ((s.raiseWatch s.ownSlot k).markEpochs parcel es).complete .done

theorem State.ownChangeGiven_eq (k parcel : Nat) (limited : Bool) (es : List Epoch) (s : State) :
    s.ownChangeGiven k parcel limited es = { s with
      pub := s.pub.give (.point k)
      balance := s.balance.request s.reading parcel
      notices := (if limited then s.notices.raise .limit parcel else s.notices).raiseWatch { slot := s.ownSlot, point := k }
      attest := s.attest.map (fun r =>
        if r.parcel = parcel ∧ r.epoch ≠ .interim ∧ r.epoch ∈ es then { r with changedSince := true } else r)
      port := { s.port with busy := none, last := .done } } := by
  refine State.eq_of_fields ?_ ?_ ?_ ?_ ?_ ?_ ?_ ?_ ?_ ?_ ?_ ?_ ?_ ?_ <;>
    simp [State.ownChangeGiven, State.markEpochs_attest]
  rfl

theorem State.withdrawalMade_of_due {s : State} {k : Nat} {p : OwnPoint} (hbusy : s.port.busy = some (.withdraw k))
    (hpoint : s.table.point? k = some p) (hhold : s.table.hold = { holder := none, waiting := false }) :
    s.withdrawalMade = ({ s with table :=
      { (s.table.changed 1).modifyPoint k (fun q => { q with slots := {}, withdrawn := true }) with
        permit := s.table.permit && !s.consumesPermit } } : State).ownChangeGiven k p.parcel false (heldEpochs p.slots) := by
  have hclear := (Hold.isClear_iff _).2 hhold
  simp only [State.withdrawalMade, hbusy, hpoint, hclear]
  rfl

theorem State.withdrawalMade_of_held {s : State} (hset : s.table.hold.holder ≠ none ∨ s.table.hold.waiting = true) :
    s.withdrawalMade = s := by
  unfold State.withdrawalMade
  split
  · split
    · rfl
    · exact if_pos (by simp [Hold.not_isClear hset])
  · rfl

/-- R33's marks: the attested epochs that were held. -/
theorem mem_held_attested_iff (slots : Slots Observation) (e : Epoch) :
    (e ≠ .interim ∧ e ∈ heldEpochs slots) ↔
      (e = .opening ∧ slots.opening.isSome = true ∨ e = .closing ∧ slots.closing.isSome = true) := by
  rw [mem_heldEpochs_iff]
  cases e <;> simp [Slots.get]

/-- Settles O16: the checks of R33 in order, the withdrawal with its fan-out, and the wait for the hold. -/
theorem withdrawIsCheckedAndMadeWhole : Obligations.WithdrawIsCheckedAndMadeWhole := by
  refine ⟨fun point s h => ?_, fun s k p hbusy hpoint hhold => ?_, fun s hset => ?_⟩
  · exact (exec_request_idle h _).trans (congrArg _ (s.newSelection_withdraw point.toNat))
  · show Host.Outcome.next s.withdrawalMade = _
    rw [State.withdrawalMade_of_due hbusy hpoint hhold, State.ownChangeGiven_eq]
    simp only [mem_held_attested_iff]
    rfl
  · exact congrArg _ (State.withdrawalMade_of_held hset)

/-! ### The store of a POST (R30, R31) -/

theorem State.postStore_of_due {s : State} {k : Nat} {r : StuResult} {p : OwnPoint} (hbusy : s.port.busy = some (.post k))
    (hresult : s.table.postResult = some r) (hpoint : s.table.point? k = some p)
    (hhold : s.table.hold = { holder := none, waiting := false }) :
    s.postStore = ({ s with
      table := { (s.table.changed 1).modifyPoint k (fun q => { q with slots := q.slots.set r.item.epoch (some
            { revision := nextRevision (p.slots.get r.item.epoch), raw := r.item.raw, std := r.std }) }) with
          permit := s.table.permit && !(s.consumesPermit && p.amends r.item.epoch), postResult := none }
      stu := s.stu.release .port } : State).ownChangeGiven k p.parcel (!r.std.quals.isEmpty) [r.item.epoch] := by
  have hclear := (Hold.isClear_iff _).2 hhold
  simp only [State.postStore, hbusy, hresult, hpoint, hclear]
  rfl

theorem State.postStore_of_held {s : State} (hset : s.table.hold.holder ≠ none ∨ s.table.hold.waiting = true) :
    s.postStore = s := by
  unfold State.postStore
  split
  · split
    · rfl
    · exact if_pos (by simp [Hold.not_isClear hset])
  · rfl

theorem nextRevision_eq (held : Option Observation) : nextRevision held = (held.map (·.revision)).getD 0 + 1 := by
  cases held <;> rfl

theorem ObsQuals.isEmpty_iff (q : ObsQuals) : q.isEmpty = true ↔ q = {} := by
  rcases q with ⟨_ | _, _ | _, _ | _, _ | _, _ | _⟩ <;> decide

/-- A release leaves the other requester's service (R18, R21). -/
theorem Stu.release_port (u : Stu) :
    u.release .port = { u with inService := u.inService.filter (fun v => decide (v.requester = .intake)) } := by
  have : ∀ v : StuService, decide (v.requester ≠ .port) = decide (v.requester = .intake) := by
    rintro ⟨_ | _, _, _⟩ <;> rfl
  simp only [Stu.release, this]

theorem Stu.release_intake (u : Stu) :
    u.release .intake = { u with inService := u.inService.filter (fun v => decide (v.requester = .port)) } := by
  have : ∀ v : StuService, decide (v.requester ≠ .intake) = decide (v.requester = .port) := by
    rintro ⟨_ | _, _, _⟩ <;> rfl
  simp only [Stu.release, this]

/-- The permit a store consumes: under EACH, of an amendment (R30, R32). -/
theorem State.consumesPermit_and_amends (s : State) (p : OwnPoint) (e : Epoch) :
    (s.consumesPermit && p.amends e) =
      decide (s.amendMode = .each ∧ e ≠ .interim ∧ (p.slots.get e).isSome = true) := by
  simp [State.consumesPermit, OwnPoint.amends, Bool.decide_and]

/-- Settles O14: the change of the slot with its fan-out, and the wait for the hold. -/
theorem postStoreIsOneChangeWithItsFanOut : Obligations.PostStoreIsOneChangeWithItsFanOut := by
  refine ⟨fun s k r p hbusy hresult hpoint hhold => ?_, fun s hset => congrArg _ (State.postStore_of_held hset)⟩
  have hmarks (a : AttestRecord) : (a.parcel = p.parcel ∧ a.epoch ≠ .interim ∧ a.epoch ∈ [r.item.epoch]) ↔
      (a.parcel = p.parcel ∧ a.epoch = r.item.epoch ∧ r.item.epoch ≠ .interim) := by
    rw [List.mem_singleton, and_comm (a := a.epoch ≠ .interim)]
    exact and_congr_right fun _ => and_congr_right fun h => by rw [h]
  have hlimited : (if !r.std.quals.isEmpty then s.notices.raise .limit p.parcel else s.notices) =
      if r.std.quals = {} then s.notices else s.notices.raise .limit p.parcel := by
    by_cases h : r.std.quals = {}
    · rw [if_pos h, (ObsQuals.isEmpty_iff _).2 h]; rfl
    · rw [if_neg h, Bool.eq_false_iff.2 (mt (ObsQuals.isEmpty_iff _).1 h)]; rfl
  show Host.Outcome.next s.postStore = _
  rw [State.postStore_of_due hbusy hresult hpoint hhold, State.ownChangeGiven_eq]
  simp only [hmarks, hlimited, nextRevision_eq, Stu.release_port, State.consumesPermit_and_amends]
  rfl

/-! ### POST (R29) -/

/-- The refusals of R29's table for a point and an epoch that there are. -/
def State.postRefusals (s : State) (p : OwnPoint) (e : Epoch) (raw : RawFigures) : List (Bool × ResultCode) :=
  [ (decide (s.sheet.node = .final), .finalised), (decide (s.sheet.node ≠ .active), .state), (p.withdrawn, .withdrawn),
    (!raw.inRangeFor p.kind, .range),
    (decide (e ≠ .opening ∧ p.slots.opening = none), .order),
    (decide (e = .interim ∧ p.slots.closing ≠ none), .closed),
    (p.protection.covers e, .isProtected),
    (decide (p.amends e ∧ s.lacksPermit), .noPermit),
    ((p.slots.get e).any (fun o => decide (o.revision = 65535)), .revisionLimit) ]

def OwnPoint.stuItem (p : OwnPoint) (e : Epoch) (raw : RawFigures) : StuItem :=
  { parcel := p.parcel, kind := p.kind, meterFactor := p.meterFactor, epoch := e, raw := raw, source := none }

theorem State.checkPost_of_epoch {point epoch : Nat} {raw : RawFigures} {s : State} {p : OwnPoint} {e : Epoch}
    (hpoint : s.table.point? point = some p) (hepoch : Epoch.ofCode epoch = some e) :
    s.checkPost point epoch raw = orRefuse (firstRefusal (s.postRefusals p e raw)) (p.stuItem e raw) := by
  simp only [State.postRefusals, orRefuse_cons, orRefuse_nil, State.checkPost, hpoint, hepoch, decide_eq_true_eq]
  cases raw.inRangeFor p.kind <;> rfl

/-- Without such an epoch a POST is refused with RANGE, or for the node state or the point before it. -/
theorem State.checkPost_of_no_epoch {point epoch : Nat} {raw : RawFigures} {s : State} {p : OwnPoint}
    (hpoint : s.table.point? point = some p) (hepoch : Epoch.ofCode epoch = none) :
    ∃ code, s.checkPost point epoch raw = .error code ∧ firstRefusal
      [ (decide (s.sheet.node = .final), .finalised), (decide (s.sheet.node ≠ .active), .state), (p.withdrawn, .withdrawn),
        (true, .range) ] = some code := by
  simp only [firstRefusal_cons, State.checkPost, hpoint, hepoch, decide_eq_true_eq]
  split_ifs <;> exact ⟨_, rfl, rfl⟩

/-- Without the point it is refused with NO_POINT, or for the node state before it. -/
theorem State.checkPost_of_no_point {point epoch : Nat} {raw : RawFigures} {s : State}
    (hpoint : s.table.point? point = none) :
    ∃ code, s.checkPost point epoch raw = .error code ∧ firstRefusal
      [ (decide (s.sheet.node = .final), .finalised), (decide (s.sheet.node ≠ .active), .state), (true, .noPoint) ]
        = some code := by
  simp only [firstRefusal_cons, State.checkPost, hpoint, decide_eq_true_eq]
  split_ifs <;> exact ⟨_, rfl, rfl⟩

theorem Epoch.ofCode_eq_some_iff (n : Nat) (e : Epoch) : Epoch.ofCode n = some e ↔ n = e.code := by
  constructor
  · intro h
    unfold Epoch.ofCode at h
    split at h <;> simp at h <;> subst h <;> rfl
  · rintro rfl
    exact e.ofCode_code

theorem Epoch.ofCode_eq_none_iff (n : Nat) : Epoch.ofCode n = none ↔ n < 1 ∨ 3 < n := by
  rcases Nat.lt_or_ge 3 n with h | h
  · obtain ⟨m, rfl⟩ := Nat.exists_eq_add_of_le' h
    simp [Epoch.ofCode]
  · interval_cases n <;> simp [Epoch.ofCode]

/-- The ranges of R1 and R2, as R29 refuses them. -/
theorem RawFigures.not_inRangeFor (kind : PointKind) (r : RawFigures) :
    (!r.inRangeFor kind) = (decide (4000000000 < r.quantity ∨ 4000000000 < r.water ∨ r.temperature < -4000
      ∨ 15000 < r.temperature) || decide (kind = .meter ∧ r.water ≠ 0)) := by
  rw [Bool.eq_iff_iff, Bool.not_eq_true', Bool.eq_false_iff, Ne, Bool.or_eq_true, decide_eq_true_eq, decide_eq_true_eq]
  simp only [RawFigures.inRangeFor, Bool.and_eq_true, Bool.or_eq_true, decide_eq_true_eq]
  by_cases hkind : kind = .meter <;>
    simp only [hkind, ne_eq, not_true_eq_false, not_false_eq_true, true_or, false_or, true_and, false_and, and_true,
      or_false] <;> omega

/-- POST at an idle port, by a table of refusals that says what its checks find. -/
theorem State.newSelection_post {point epoch : Nat} {raw : RawFigures} {s : State} {refusals : List (Bool × ResultCode)}
    {item : StuItem} (hcheck : s.checkPost point epoch raw = orRefuse (firstRefusal refusals) item) :
    s.newSelection.post point epoch raw = s.checked refusals
      { s.accepted (.post point) with stu := { s.stu with portWaiting := some [item] } } := by
  have hnew : s.newSelection.checkPost point epoch raw = orRefuse (firstRefusal refusals) item := hcheck
  unfold State.post State.checked
  rw [hnew]
  cases firstRefusal refusals <;> rfl

theorem exec_post_idle {point epoch : Byte} {quantity water : BitVec 32} {temperature : BitVec 16} {s : State}
    (h : s.portIdle) {refusals : List (Bool × ResultCode)} {item : StuItem}
    (hcheck : s.checkPost point.toNat epoch.toNat
      { quantity := quantity.toNat, water := water.toNat, temperature := temperature.toInt } =
        orRefuse (firstRefusal refusals) item) :
    exec (.post point epoch quantity water temperature) s = .next (s.checked refusals
      { s.accepted (.post point.toNat) with stu := { s.stu with portWaiting := some [item] } }) :=
  (exec_request_idle h _).trans (congrArg _ (State.newSelection_post hcheck))

theorem exec_post_busy {point epoch : Byte} {quantity water : BitVec 32} {temperature : BitVec 16} {s : State}
    (h : s.takes) (hbusy : s.port.busy.isSome = true) :
    exec (.post point epoch quantity water temperature) s = .next (s.answered .busy []) :=
  congrArg _ (State.takeRequest_busy h hbusy _)

theorem exec_post_refused {point epoch : Byte} {quantity water : BitVec 32} {temperature : BitVec 16} {s : State}
    (h : s.portIdle) {code : ResultCode}
    (hcheck : s.checkPost point.toNat epoch.toNat
      { quantity := quantity.toNat, water := water.toNat, temperature := temperature.toInt } = .error code) :
    exec (.post point epoch quantity water temperature) s = .next (s.answered code []) := by
  have hnew : s.newSelection.checkPost point.toNat epoch.toNat
      { quantity := quantity.toNat, water := water.toNat, temperature := temperature.toInt } = .error code := hcheck
  refine (exec_request_idle h _).trans (congrArg _ ?_)
  unfold State.post
  rw [hnew]
  rfl

/-- A refusal table that finds a refusal says all there is to say. -/
theorem forall_refusal_of_some {refusals : List (Bool × ResultCode)} {code : ResultCode} {P : ResultCode → Prop} {Q : Prop}
    (hfirst : firstRefusal refusals = some code) (h : P code) :
    (∀ c, firstRefusal refusals = some c → P c) ∧ (firstRefusal refusals = none → Q) := by
  rw [hfirst]
  exact ⟨fun c hc => Option.some.inj hc ▸ h, fun hc => by cases hc⟩

/-! The rows of R29's table, as the checks test them. -/

theorem Epoch.byte_eq_one_iff {epoch : Byte} {e : Epoch} (h : epoch.toNat = e.code) : epoch = 1 ↔ e = .opening := by
  cases e <;> simp [BitVec.toNat_eq, h, Epoch.code]

theorem Epoch.byte_eq_two_iff {epoch : Byte} {e : Epoch} (h : epoch.toNat = e.code) : epoch = 2 ↔ e = .interim := by
  cases e <;> simp [BitVec.toNat_eq, h, Epoch.code]

theorem Slots.get_eq_ite {α : Type} (slots : Slots α) (e : Epoch) :
    (if e = .opening then slots.opening else if e = .interim then slots.interim else slots.closing) = slots.get e := by
  cases e <;> rfl

theorem Protection.covers_eq (p : Protection) (e : Epoch) :
    p.covers e = decide (p = .throughClosing ∨ (p = .throughOpening ∧ e = .opening)) := by
  cases p <;> cases e <;> rfl

theorem rangeRow_eq {epoch : Byte} {e : Epoch} (h : epoch.toNat = e.code) (kind : PointKind)
    (quantity water : BitVec 32) (temperature : BitVec 16) :
    (decide (epoch.toNat < 1 ∨ 3 < epoch.toNat ∨ 4000000000 < quantity.toNat ∨ 4000000000 < water.toNat
        ∨ temperature.toInt < -4000 ∨ 15000 < temperature.toInt) || decide (kind = .meter ∧ water ≠ 0)) =
      !RawFigures.inRangeFor kind
        { quantity := quantity.toNat, water := water.toNat, temperature := temperature.toInt } := by
  have hepoch : ¬ epoch.toNat < 1 ∧ ¬ 3 < epoch.toNat := by
    rw [h]
    cases e <;> decide
  have hwater : water ≠ 0 ↔ water.toNat ≠ 0 := by simp [BitVec.toNat_eq]
  simp only [RawFigures.not_inRangeFor, hepoch, hwater, false_or]

theorem orderRow_eq (e : Epoch) (opening : Option Observation) :
    (decide (e ≠ .opening) && opening.isNone) = decide (e ≠ .opening ∧ opening = none) := by
  cases opening <;> simp

theorem closedRow_eq (e : Epoch) (closing : Option Observation) :
    (decide (e = .interim) && closing.isSome) = decide (e = .interim ∧ closing ≠ none) := by
  cases closing <;> simp

theorem permitRow_eq (s : State) (p : OwnPoint) (e : Epoch) :
    (decide (e ≠ .interim) && (p.slots.get e).isSome && decide (s.amendMode ≠ .none) && !s.table.permit) =
      decide (p.amends e ∧ s.lacksPermit) := by
  simp [OwnPoint.amends, State.lacksPermit, Bool.decide_and, Bool.and_assoc]

/-- Settles O13: by whether the port is BUSY, whether the point is there, and whether the epoch is one. -/
theorem postIsCheckedInOrder : Obligations.PostIsCheckedInOrder := by
  intro point epoch quantity water temperature s htakes found is slot table
  by_cases hbusy : s.port.busy.isSome = true
  · refine forall_refusal_of_some (code := .busy) ?_ (exec_post_busy htakes hbusy)
    simp only [table, firstRefusal_cons, hbusy, if_true]
  · have hidle : s.portIdle := ⟨htakes, by simpa using hbusy⟩
    have hfree : s.port.busy.isSome = false := Bool.eq_false_iff.2 hbusy
    cases hfound : s.table.point? point.toNat with
    | none =>
      have hof : found = none := hfound
      obtain ⟨code, hcheck, hfirst⟩ := State.checkPost_of_no_point hfound
      refine forall_refusal_of_some (code := code) ?_ (exec_post_refused hidle hcheck)
      rw [← hfirst]
      simp only [table, hof, hfree, firstRefusal_cons, Option.isNone_none, Bool.false_eq_true, if_false, if_true]
    | some p =>
      have hof : found = some p := hfound
      cases hepoch : Epoch.ofCode epoch.toNat with
      | none =>
        obtain ⟨code, hcheck, hfirst⟩ := State.checkPost_of_no_epoch hfound hepoch
        refine forall_refusal_of_some (code := code) ?_ (exec_post_refused hidle hcheck)
        have hrange : epoch.toNat < 1 ∨ 3 < epoch.toNat := (Epoch.ofCode_eq_none_iff _).1 hepoch
        have hany : (epoch.toNat < 1 ∨ 3 < epoch.toNat ∨ 4000000000 < quantity.toNat ∨ 4000000000 < water.toNat
            ∨ temperature.toInt < -4000 ∨ 15000 < temperature.toInt) = True := eq_true (by tauto)
        rw [← hfirst]
        simp only [table, is, hof, hfree, firstRefusal_cons, Option.isNone_some, Option.any_some, hany, decide_true,
          Bool.true_or, Bool.false_eq_true, if_false, if_true]
      | some e =>
        have hcode := (Epoch.ofCode_eq_some_iff _ e).1 hepoch
        have hrows : firstRefusal table = firstRefusal (s.postRefusals p e
            { quantity := quantity.toNat, water := water.toNat, temperature := temperature.toInt }) := by
          have hone : epoch ≠ 1 ↔ e ≠ .opening := not_congr (Epoch.byte_eq_one_iff hcode)
          have htwo : epoch ≠ 2 ↔ e ≠ .interim := not_congr (Epoch.byte_eq_two_iff hcode)
          simp only [table, is, slot, hof, hfree, firstRefusal_cons, Option.isNone_some, Option.any_some,
            rangeRow_eq hcode, hone, htwo, Epoch.byte_eq_one_iff hcode, Epoch.byte_eq_two_iff hcode, Slots.get_eq_ite,
            ← Protection.covers_eq, orderRow_eq, closedRow_eq, permitRow_eq, State.postRefusals, Bool.false_eq_true,
            if_false]
        have hexec := exec_post_idle (quantity := quantity) (water := water) (temperature := temperature) hidle
          (State.checkPost_of_epoch hfound hepoch)
        refine ⟨fun code hrefused => ?_, fun htaken => ⟨p, e, hof, hcode.symm, ?_⟩⟩
        · rw [hexec, State.checked, ← hrows, hrefused]
        · rw [hexec, State.checked, ← hrows, htaken]
          rfl

end Sys2Proof.Machine
end

section
/-! PROOFS. The merge of a FIGURE frame (02 section 2.5, R41). -/

namespace Sys2Proof.Machine

/-! ### The slots of an entry after a merge (R41) -/

theorem Slots.get_set_self {α : Type} (slots : Slots α) (e : Epoch) (o : Option α) : (slots.set e o).get e = o := by
  cases e <;> rfl

theorem Slots.get_set_of_ne {α : Type} {d e : Epoch} (h : d ≠ e) (slots : Slots α) (o : Option α) :
    (slots.set e o).get d = slots.get d := by
  cases d <;> cases e <;> simp_all [Slots.get, Slots.set]

theorem storeBlocks_cons (slots : Slots PeerObservation) (r : StuResult) (rs : List StuResult) :
    storeBlocks slots (r :: rs) = storeBlocks (match r.stored with
      | some o => slots.set r.item.epoch (some o)
      | none => slots) rs := rfl

/-- A slot that no block is for stays as it is. -/
theorem storeBlocks_get_of_not_mem {slots : Slots PeerObservation} {rs : List StuResult} {e : Epoch}
    (h : ∀ r ∈ rs, r.item.epoch ≠ e) : (storeBlocks slots rs).get e = slots.get e := by
  induction rs generalizing slots with
  | nil => rfl
  | cons r rs ih =>
    rw [storeBlocks_cons, ih fun q hq => h q (List.mem_cons_of_mem _ hq)]
    split
    · exact Slots.get_set_of_ne (h r (List.mem_cons_self ..)).symm _ _
    · rfl

/-- With one block to a slot, each slot takes its block. -/
theorem storeBlocks_get_of_mem {slots : Slots PeerObservation} {rs : List StuResult} {r : StuResult} {o : PeerObservation}
    (hnodup : (rs.map (·.item.epoch)).Nodup) (hr : r ∈ rs) (ho : r.stored = some o) :
    (storeBlocks slots rs).get r.item.epoch = some o := by
  induction rs generalizing slots with
  | nil => cases hr
  | cons q qs ih =>
    obtain ⟨hq, hqs⟩ := List.nodup_cons.1 hnodup
    rw [storeBlocks_cons]
    rcases List.mem_cons.1 hr with rfl | hr
    · rw [ho, storeBlocks_get_of_not_mem fun x hx heq => hq (List.mem_map.2 ⟨x, hx, heq⟩), Slots.get_set_self]
    · exact ih hqs hr

/-! ### The merge with its fan-out (R41) -/

/-- A peer record's change that the balance does not read requests nothing. -/
theorem State.updatePeer_of_key {slot : Nat} {f : PeerRecord → PeerRecord} {s : State}
    (h : (s.peer slot).balanceKey = (f (s.peer slot)).balanceKey) :
    s.updatePeer slot f = { s with peers := s.peers.set slot (f (s.peer slot)) } := by
  rcases State.setPeer_cases slot (f (s.peer slot)) s with ⟨-, hset⟩ | ⟨hkey, -⟩
  · exact hset
  · exact absurd h hkey

/-- The entry a FIGURE frame's merge writes: the held one or a new one, with the stored blocks. -/
def FigureTable.mergedEntry (t : FigureTable) (slot point : Nat) (kind : PointKind) (parcel factor : Nat)
    (results : List StuResult) : PeerEntry :=
  let old := (t.entry? slot point).getD
    { slot := slot, point := point, kind := kind, parcel := parcel, meterFactor := factor, slots := {} }
  { old with slots := storeBlocks old.slots results }

theorem FigureTable.mergedEntry_key (t : FigureTable) (slot point : Nat) (kind : PointKind) (parcel factor : Nat)
    (results : List StuResult) :
    (t.mergedEntry slot point kind parcel factor results).slot = slot
      ∧ (t.mergedEntry slot point kind parcel factor results).point = point := by
  unfold FigureTable.mergedEntry
  cases hentry : t.entry? slot point with
  | none => exact ⟨rfl, rfl⟩
  | some e => exact (entry?_key hentry).2

theorem FigureTable.mergedEntry_slots (t : FigureTable) (slot point : Nat) (kind : PointKind) (parcel factor : Nat)
    (results : List StuResult) :
    (t.mergedEntry slot point kind parcel factor results).slots =
      storeBlocks (((t.entry? slot point).map (·.slots)).getD {}) results := by
  unfold FigureTable.mergedEntry
  cases t.entry? slot point <;> rfl

/-- A FIGURE frame's change, given out: the recompute, COMPUTE_MISMATCH with the record's flag, LIMIT, WATCH and the
marks. -/
def State.mergeGiven (slot point parcel : Nat) (differs limited : Bool) (es : List Epoch) (s : State) : State :=
  let s := s.request parcel
  let s := if differs then s.updatePeer slot (fun r => { r with mismatch := true }) else s
  let s := (s.raiseIf differs .computeMismatch slot).raiseIf limited .limit parcel
  (s.raiseWatch slot point).markEpochs parcel es

theorem State.mergeGiven_eq (slot point parcel : Nat) (differs limited : Bool) (es : List Epoch) (s : State) :
    s.mergeGiven slot point parcel differs limited es = { s with
      balance := s.balance.request s.reading parcel
      peers := if differs then s.peers.set slot { s.peer slot with mismatch := true } else s.peers
      notices :=
        (let a := if differs then s.notices.raise .computeMismatch slot else s.notices
         let b := if limited then a.raise .limit parcel else a
         b.raiseWatch { slot := slot, point := point })
      attest := s.attest.map (fun r =>
        if r.parcel = parcel ∧ r.epoch ≠ .interim ∧ r.epoch ∈ es then { r with changedSince := true } else r) } := by
  have hflag (t : State) : t.updatePeer slot (fun r => { r with mismatch := true }) =
      { t with peers := t.peers.set slot { t.peer slot with mismatch := true } } :=
    State.updatePeer_of_key rfl
  unfold State.mergeGiven
  simp only [hflag]
  refine State.eq_of_fields ?_ ?_ ?_ ?_ ?_ ?_ ?_ ?_ ?_ ?_ ?_ ?_ ?_ ?_ <;>
    cases differs <;> simp [State.markEpochs_attest]
  rfl

theorem State.frameMerge_of_due {s : State} {slot point parcel factor : Nat} {kind : PointKind} {results : List StuResult}
    (hmerging : s.intake.merging = some (.figure slot point kind parcel factor (some results)))
    (hholder : s.table.hold.holder = none) :
    s.frameMerge = ({ s with
      table := { s.table.changed 1 with
        entries := insertEntry (s.table.mergedEntry slot point kind parcel factor results) s.table.entries }
      stu := s.stu.release .intake
      intake := { s.intake with merging := none } } : State).mergeGiven slot point parcel (results.any (·.mismatch))
        (results.any (fun r => !r.std.quals.isEmpty)) (results.map (·.item.epoch)) := by
  simp only [State.frameMerge, hmerging, hholder]
  rfl

theorem pairwise_keys_iff (entries : List PeerEntry) :
    (entries.map PeerEntry.key).Pairwise keyLt
      ↔ entries.Pairwise (fun d e => keyBefore d.slot d.point e.slot e.point = true) := by
  rw [List.pairwise_map]
  rfl

/-- Settles O50: the entry by what a merge writes, the fan-out by its fields. -/
theorem mergeIsOneChangeWithItsFanOut : Obligations.MergeIsOneChangeWithItsFanOut := by
  intro s slot point parcel factor kind results hmerging hholder hsorted hnodup hsources old differs limited
  have hold : old = s.table.entry? slot point := rfl
  generalize hentry : s.table.mergedEntry slot point kind parcel factor results = entry
  have hkey : entry.slot = slot ∧ entry.point = point := hentry ▸ s.table.mergedEntry_key ..
  have hslots : entry.slots = storeBlocks ((old.map (·.slots)).getD {}) results :=
    hentry ▸ s.table.mergedEntry_slots ..
  have hlimited : results.any (fun r => !r.std.quals.isEmpty) = limited := by
    refine congrArg results.any (funext fun r => ?_)
    rw [Bool.eq_iff_iff, Bool.not_eq_true', Bool.eq_false_iff, Ne, ObsQuals.isEmpty_iff, decide_eq_true_eq]
  refine ⟨s.frameMerge, rfl, ?_⟩
  rw [State.frameMerge_of_due hmerging hholder, State.mergeGiven_eq, hentry, hlimited]
  refine ⟨rfl, rfl, fun e he => ?_, ⟨entry, mem_insertEntry_self _ _, hkey.1, hkey.2, fun o ho => ?_, fun hnone => ?_,
    fun r hr src hsrc => ?_, fun ep hep => ?_⟩, (pairwise_keys_iff _).1 (insertEntry_sorted ((pairwise_keys_iff _).2 hsorted)),
    rfl, rfl, rfl, ?_, s.stu.release_intake, rfl, rfl, rfl, rfl, rfl, rfl, rfl⟩
  · exact mem_insertEntry_of_ne (Bool.eq_false_iff.2 (mt isEntry_iff.1 (by rwa [hkey.1, hkey.2])))
  · rw [← hentry, FigureTable.mergedEntry, ← hold, ho]
    exact ⟨rfl, rfl, rfl⟩
  · rw [← hentry, FigureTable.mergedEntry, ← hold, hnone]
    exact ⟨rfl, rfl, rfl⟩
  · rw [hslots]
    refine storeBlocks_get_of_mem hnodup hr ?_
    rw [StuResult.stored, Option.mem_def.1 hsrc]
    rfl
  · rw [hslots, storeBlocks_get_of_not_mem hep]
    cases old with
    | none => cases ep <;> rfl
    | some o => rfl
  · simp only [List.mem_map]

end Sys2Proof.Machine
end

section
/-! PROOFS. What the Peer Registry leaves of a frame it accepts, the content check, and FIGURE frames block by block (06 sections
6.2, 6.3; 02 sections 2.5, 2.6). -/

namespace Sys2Proof.Machine

/-! ### The removal of a station (R43, R86) -/

/-- The entries a removal leaves are those of the other stations. -/
theorem filter_not_removed (slot : Nat) (entries : List PeerEntry) :
    entries.filter (fun e => !(entries.filter (fun e => e.slot = slot)).any (fun g => isEntry g.slot g.point e)) =
      entries.filter (fun e => decide (e.slot ≠ slot)) := by
  refine List.filter_congr fun e he => ?_
  rw [Bool.eq_iff_iff, Bool.not_eq_true', Bool.eq_false_iff, Ne, List.any_eq_true, decide_eq_true_eq, not_iff_not]
  constructor
  · rintro ⟨g, hg, hkey⟩
    rw [(isEntry_iff.1 hkey).1]
    simpa using (List.mem_filter.1 hg).2
  · exact fun hslot => ⟨e, List.mem_filter.2 ⟨he, by simpa using hslot⟩, isEntry_iff.2 ⟨rfl, rfl⟩⟩

/-- The marks of a removal (R43), said of each record. -/
theorem markRemoved_eq (gone : List PeerEntry) (rs : List AttestRecord) :
    markRemoved gone rs = rs.map (fun r => { r with changedSince := r.changedSince || decide (r.epoch ≠ .interim
      ∧ ∃ e ∈ gone, e.parcel = r.parcel ∧ (e.slots.get r.epoch).isSome = true) }) := by
  refine List.map_congr_left fun r _ => ?_
  have hgone : gone.any (fun e => decide (e.parcel = r.parcel ∧ (e.slots.get r.epoch).isSome)) = true
      ↔ ∃ e ∈ gone, e.parcel = r.parcel ∧ (e.slots.get r.epoch).isSome = true := by
    simp [List.any_eq_true]
  simp only [hgone, mem_attestedEpochs_iff, and_comm (b := r.epoch ≠ .interim)]
  split
  · next h => rw [decide_eq_true h, Bool.or_true]
  · next h => rw [decide_eq_false h, Bool.or_false]

theorem foldl_raiseWatch_slot {slot : Nat} {gone : List PeerEntry} (h : ∀ e ∈ gone, e.slot = slot) (n : NoticeUnit) :
    gone.foldl (fun n e => n.raiseWatch { slot := e.slot, point := e.point }) n =
      gone.foldl (fun n e => n.raiseWatch { slot := slot, point := e.point }) n := by
  induction gone generalizing n with
  | nil => rfl
  | cons e es ih =>
    rw [List.foldl_cons, List.foldl_cons, h e (List.mem_cons_self ..), ih fun x hx => h x (List.mem_cons_of_mem _ hx)]

/-- A removal of entries, by its fields. -/
theorem State.removeEntries_of_ne_nil {gone : List PeerEntry} (h : gone ≠ []) (s : State) :
    let entries := s.table.entries.filter (fun e => !gone.any (fun g => isEntry g.slot g.point e))
    s.removeEntries gone = { s with
      table := { s.table with entries := entries, changeCount := s.table.changeCount + 1 }
      attest := markRemoved gone s.attest
      balance := (parcelNumbers.filter (fun p => gone.any (fun e => decide (e.parcel = p)))).foldl
        (BalanceEngine.request { own := s.table.own, entries := entries, peers := s.peers, node := s.sheet.node }) s.balance
      notices := gone.foldl (fun n e => n.raiseWatch { slot := e.slot, point := e.point }) s.notices } := by
  intro entries
  exact if_neg (by simpa using h)

theorem State.removeEntries_nil (s : State) : s.removeEntries [] = s := rfl

/-- Memberships and marks of a removal are changed independently of each other. -/
theorem dropMember_markRemoved (slot : Nat) (gone : List PeerEntry) (rs : List AttestRecord) :
    dropMember slot (markRemoved gone rs) = rs.map (fun r => { r with
      matching := r.matching &&& ~~~ BitVec.ofNat 16 (2 ^ slot), diverging := r.diverging &&& ~~~ BitVec.ofNat 16 (2 ^ slot)
      changedSince := r.changedSince || decide (r.epoch ≠ .interim
        ∧ ∃ e ∈ gone, e.parcel = r.parcel ∧ (e.slots.get r.epoch).isSome = true) }) := by
  rw [markRemoved_eq, dropMember, List.map_map]
  rfl

/-- The removal of a station's entries and memberships is what R43 and R86 say of it. -/
theorem State.dropStation_eq (slot : Nat) (s : State) : s.dropStation slot = s.stationRemoved slot := by
  generalize hgone : s.table.entries.filter (fun e => decide (e.slot = slot)) = gone
  have hslots : ∀ e ∈ gone, e.slot = slot := fun e he => by
    rw [← hgone] at he
    simpa using (List.mem_filter.1 he).2
  have hkept : s.table.entries.filter (fun e => !gone.any (fun g => isEntry g.slot g.point e)) =
      s.table.entries.filter (fun e => decide (e.slot ≠ slot)) := hgone ▸ filter_not_removed slot _
  have hattest := dropMember_markRemoved slot gone s.attest
  have hparcels (p : Nat) : gone.any (fun e => decide (e.parcel = p)) = decide (∃ e ∈ gone, e.parcel = p) := by
    rw [Bool.eq_iff_iff]
    simp
  have hdropped : s.dropStation slot =
      { s.removeEntries gone with attest := dropMember slot (s.removeEntries gone).attest } := hgone ▸ rfl
  rw [hdropped]
  simp only [State.stationRemoved, hgone, ← hattest]
  by_cases hnil : gone = []
  · have hall : s.table.entries.filter (fun e => decide (e.slot ≠ slot)) = s.table.entries := by
      rw [← hkept, hnil]
      simp
    subst hnil
    rw [State.removeEntries_nil, hall, if_pos rfl]
    refine State.eq_of_fields rfl rfl rfl rfl ?_ rfl rfl rfl rfl rfl rfl rfl rfl rfl
    simp [markRemoved]
  · rw [State.removeEntries_of_ne_nil hnil, if_neg hnil]
    simp only [hkept, hparcels, foldl_raiseWatch_slot hslots]
    rfl

/-! ### What the registry leaves of a frame it accepts (R117, R118, R120, R122) -/

theorem PeerRecord.takeContents_eq (b : Body) (r : PeerRecord) : r.takeContents b = r.announced b := by cases b <;> rfl

/-- What the registry finds of a frame of a PRESENT or ABSENT station (R117, R118, R120). -/
theorem PeerRecord.judge_eq {f : Frame} {b : Body} {r : PeerRecord} (h : r.state = .present ∨ r.state = .absent) :
    let gap := if r.state = .present ∧ r.generation = some f.generation then r.gap f else 0
    let back := decide (32768 ≤ gap)
    r.judge f b = some { drop := back || decide (r.generation ≠ some f.generation), missing := if back then 0 else gap
                         stepBack := back, returns := decide (r.state = .absent) } := by
  rcases h with h | h
  · by_cases hgen : r.generation = some f.generation
    · cases hbase : r.baseline with
      | none => simp [PeerRecord.judge, h, hgen, hbase, PeerRecord.gap]
      | some base =>
        have hgap : r.gap f = sequenceGap base f.sequence := by simp [PeerRecord.gap, hbase, sequenceGap]
        by_cases hd : sequenceGap base f.sequence ≤ 32767
        · have : ¬ 32768 ≤ sequenceGap base f.sequence := by omega
          simp [PeerRecord.judge, h, hgen, hbase, hgap, judgeSequence, hd, this]
        · have : 32768 ≤ sequenceGap base f.sequence := by omega
          simp [PeerRecord.judge, h, hgen, hbase, hgap, judgeSequence, hd, this]
    · simp [PeerRecord.judge, h, hgen]
  · simp [PeerRecord.judge, h]

theorem PeerRecord.accepting_eq (r : PeerRecord) (f : Frame) (b : Body) (timeout missing : Nat) (dropped : Bool) :
    ((if dropped then r.flagsCleared else r).hear f timeout missing).takeContents b =
      r.accepting f b timeout missing dropped := by
  cases dropped <;> simp [PeerRecord.takeContents_eq, PeerRecord.accepting, PeerRecord.hear, PeerRecord.flagsCleared, addMissing, satAdd, max32]

/-- A field that the balance reads has changed, first by the cleared flags, then by the frame (R64). -/
theorem PeerRecord.keyMoved_iff (r after : PeerRecord) (dropped : Bool) :
    let kept := if dropped then r.flagsCleared else r
    (r.balanceKey ≠ kept.balanceKey ∨ kept.balanceKey ≠ after.balanceKey) ↔ r.keyMoved after dropped := by
  intro kept
  have hstate : kept.state = r.state := by cases dropped <;> rfl
  have hcount : kept.declaredCount = r.declaredCount := by cases dropped <;> rfl
  have hmask : kept.declaredMask = r.declaredMask := by cases dropped <;> rfl
  have hfinal : kept.finalised = (r.finalised && !dropped) := by
    cases dropped
    · exact (Bool.and_true _).symm
    · exact (Bool.and_false _).symm
  have hcleared : r.finalised ≠ (r.finalised && !dropped) ↔ dropped = true ∧ r.finalised = true := by
    cases dropped <;> cases r.finalised <;> simp
  simp only [PeerRecord.balanceKey, PeerRecord.keyMoved, ne_eq, Prod.mk.injEq, hstate, hcount, hmask, hfinal, true_and]
  rw [← hcleared, eq_comm (a := after.finalised)]
  tauto

theorem State.writePeer_eq (slot : Nat) (changed : Bool) (r : PeerRecord) (s : State) :
    s.writePeer slot changed r = { s with
      peers := s.peers.set slot r, balance := s.requestingAll (s.peers.set slot r) (changed = true) } := by
  cases changed <;> rfl

/-- The state in which the registry writes the record of an accepted frame: what is missing and stepped back counted,
PEER_RETURN raised, entries and memberships removed. -/
def State.heardFrom (s : State) (slot : Nat) (j : Judgement) : State :=
  let returned : State := if j.returns then { s with notices := s.notices.raise .peerReturn slot } else s
  { (if j.drop then returned.stationRemoved slot else returned) with
    intake := { s.intake with counters := s.intake.counters.judged j } }

/-- What the registry does to a state does not read its receive queue. -/
theorem State.heardFrom_dequeued (s : State) (rest : List Frame) (slot : Nat) (j : Judgement) :
    ({ s with intake := { s.intake with queue := rest } } : State).heardFrom slot j =
      { s.heardFrom slot j with intake := { (s.heardFrom slot j).intake with queue := rest } } := by
  unfold State.heardFrom
  cases j.returns <;> cases j.drop <;> rfl

theorem State.requestingAll_congr {P Q : Prop} [Decidable P] [Decidable Q] (h : P ↔ Q) (s : State)
    (peers : List PeerRecord) : s.requestingAll peers P = s.requestingAll peers Q := by
  unfold State.requestingAll
  simp only [h]

theorem State.heardFrom_peers (s : State) (slot : Nat) (j : Judgement) : (s.heardFrom slot j).peers = s.peers := by
  unfold State.heardFrom
  cases j.returns <;> cases j.drop <;> rfl

theorem State.heardFrom_sheet (s : State) (slot : Nat) (j : Judgement) : (s.heardFrom slot j).sheet = s.sheet := by
  unfold State.heardFrom
  cases j.returns <;> cases j.drop <;> rfl

/-- The parts of accepting a frame, each by what the rules say of it (R116 to R122). -/
theorem State.acceptFrame_eq (f : Frame) (b : Body) (j : Judgement) (s : State) :
    let slot := f.source.toNat
    let after := (s.peer slot).accepting f b s.silenceBits j.missing j.drop
    s.acceptFrame f b j = { s.heardFrom slot j with
      peers := s.peers.set slot after
      balance := (s.heardFrom slot j).requestingAll (s.peers.set slot after) ((s.peer slot).keyMoved after j.drop) } := by
  intro slot after
  have hreturned : (s.count (IntakeCounters.judged j)).raiseIf j.returns .peerReturn slot =
      { (if j.returns then { s with notices := s.notices.raise .peerReturn slot } else s) with
        intake := { s.intake with counters := s.intake.counters.judged j } } := by
    cases j.returns <;> rfl
  have hheard : (if j.drop then ((s.count (IntakeCounters.judged j)).raiseIf j.returns .peerReturn slot).dropStation slot
      else (s.count (IntakeCounters.judged j)).raiseIf j.returns .peerReturn slot) = s.heardFrom slot j := by
    rw [hreturned]
    unfold State.heardFrom
    cases j.drop
    · rfl
    · exact State.dropStation_eq ..
  have hpeer : (s.heardFrom slot j).peer slot = s.peer slot := by rw [State.peer, State.heardFrom_peers]; rfl
  have hsilence : (s.heardFrom slot j).silenceBits = s.silenceBits := by
    rw [State.silenceBits, State.header?, State.heardFrom_sheet]; rfl
  have hmoved := (s.peer slot).keyMoved_iff after j.drop
  unfold State.acceptFrame
  dsimp only
  rw [hheard, hpeer, hsilence, PeerRecord.accepting_eq, State.writePeer_eq, State.heardFrom_peers]
  exact State.eq_of_fields rfl rfl rfl (State.requestingAll_congr (decide_eq_true_iff.trans hmoved) _ _) rfl rfl rfl rfl rfl rfl
    rfl rfl rfl rfl

/-- What is accepted of a PRESENT or ABSENT station leaves the state that R117 to R122 say. -/
theorem State.acceptFrame_eq_registered {s : State} {f : Frame} {rest : List Frame} {b : Body}
    (h : (s.peer f.source.toNat).state = .present ∨ (s.peer f.source.toNat).state = .absent) :
    ∃ j, (s.peer f.source.toNat).judge f b = some j
      ∧ ({ s with intake := { s.intake with queue := rest } } : State).acceptFrame f b j = s.registered f rest b := by
  refine ⟨_, PeerRecord.judge_eq h, ?_⟩
  rw [State.acceptFrame_eq, State.heardFrom_dequeued]
  simp only [State.heardFrom, State.registered, IntakeCounters.judged, decide_eq_true_eq]
  rfl

/-! ### A frame the registry accepts goes on to the content check (R111, R113) -/

theorem State.presenceMatches_of_agrees {s : State} {slot : Nat} {p : PresenceBody}
    (h : (Body.presence p).agrees s slot) : s.presenceMatches slot p = true := by
  obtain ⟨hrole, head, hheld, hnumber, hrevision⟩ := h
  simp [State.presenceMatches, hrole, hheld, hnumber, hrevision]

theorem State.judge_of_accepts {s : State} {f : Frame} {rest : List Frame} {b : Body} (h : s.accepts f rest b) :
    ({ s with intake := { s.intake with queue := rest } } : State).judge f b = (s.registered f rest b, true) := by
  obtain ⟨-, -, -, hagrees, hstate⟩ := h
  obtain ⟨j, hjudge, haccept⟩ := State.acceptFrame_eq_registered (rest := rest) (b := b) hstate
  have hjudge' : (({ s with intake := { s.intake with queue := rest } } : State).peer f.source.toNat).judge f b = some j :=
    hjudge
  cases b with
  | presence p =>
    have hmatches : ({ s with intake := { s.intake with queue := rest } } : State).presenceMatches f.source.toNat p = true :=
      State.presenceMatches_of_agrees hagrees
    simp only [State.judge, hmatches, hjudge', if_true, haccept]
  | figure | withdraw | attest => simp only [State.judge, hjudge', haccept]

theorem State.takeFrame_of_accepts {s : State} {f : Frame} {rest : List Frame} {b : Body} (h : s.accepts f rest b) :
    s.takeFrame = (s.registered f rest b).route f.source.toNat b := by
  have hjudge := State.judge_of_accepts h
  obtain ⟨⟨hqueue, hhold, hmerging⟩, hroster, hform, -, -⟩ := h
  have hready : s.table.hold.isClear = true ∧ s.intake.merging = none := ⟨(Hold.isClear_iff _).2 hhold, hmerging⟩
  have hhandled : ({ s with intake := { s.intake with queue := rest } } : State).handleFrame f =
      (s.registered f rest b).route f.source.toNat b := by
    unfold State.handleFrame
    dsimp only
    rw [if_neg (show ¬ ({ s with intake := { s.intake with queue := rest } } : State).rosterRole f.source.toNat = .empty
      from hroster), hform]
    dsimp only
    rw [hjudge]
  simp only [State.takeFrame, hqueue, if_pos hready, hhandled]

theorem State.registered_sheet (s : State) (f : Frame) (rest : List Frame) (b : Body) :
    (s.registered f rest b).sheet = s.sheet := by
  unfold State.registered
  simp only [apply_ite State.sheet, State.stationRemoved, ite_self]

theorem State.registered_merging (s : State) (f : Frame) (rest : List Frame) (b : Body) :
    (s.registered f rest b).intake.merging = s.intake.merging := rfl

/-- The kind of point a good FIGURE or WITHDRAW frame names, in a state with the same sheet. -/
theorem State.kindFor_of_good {s t : State} {slot point kindCode parcel : Nat} {kind : PointKind} (hsheet : t.sheet = s.sheet)
    (hkind : (s.rosterRole slot).pointKind = some kind) (hcode : kind.code = kindCode) (hpoint : point ≤ 23)
    (hparcel : s.parcelDefined parcel = true) : t.kindFor slot point kindCode parcel = some kind := by
  have hrole : t.rosterRole slot = s.rosterRole slot := by rw [State.rosterRole, State.roster, hsheet]; rfl
  have hdefined : t.parcelDefined parcel = true := by
    rw [State.parcelDefined, State.parcelDef?, hsheet]
    exact hparcel
  have hgood : kind.code = kindCode ∧ pointInRange point = true ∧ t.parcelDefined parcel = true :=
    ⟨hcode, decide_eq_true hpoint, hdefined⟩
  simp only [State.kindFor, hrole, hkind, if_pos hgood]

/-! ### The blocks of a FIGURE frame (R2, R39, R40) -/

theorem ObsQuals.mask_of_ofMask {m : Nat} {q : ObsQuals} (h : ObsQuals.ofMask m = some q) : q.mask = m := by
  unfold ObsQuals.ofMask at h
  split at h
  · next hm =>
    obtain rfl := Option.some.inj h
    revert m
    decide
  · cases h

/-- A block that passes the content check goes on with its raw and source content (R2, R14). -/
theorem blockItem_eq {kind : PointKind} {parcel factor : Nat} {e : Epoch} {b : BlockBody} {i : StuItem}
    (h : blockItem kind parcel factor e b = some i) :
    ∃ quals : ObsQuals, quals.mask = b.sourceMask
      ∧ i = { parcel := parcel, kind := kind, meterFactor := factor, epoch := e, raw := b.raw
              source := some (b.revision, { gsv := b.sourceGsv, quals := quals }) } := by
  unfold blockItem at h
  split at h
  · next quals hquals =>
    split at h
    · exact ⟨quals, ObsQuals.mask_of_ofMask hquals, (Option.some.inj h).symm⟩
    · cases h
  · cases h

theorem blockItems_cons {kind : PointKind} {parcel factor : Nat} {e : Epoch} {b : BlockBody}
    {rest : List (Epoch × BlockBody)} {items : List StuItem}
    (h : blockItems kind parcel factor ((e, b) :: rest) = some items) :
    ∃ i is, blockItem kind parcel factor e b = some i ∧ blockItems kind parcel factor rest = some is ∧ items = i :: is := by
  unfold blockItems at h
  split at h
  · next i is hi his => exact ⟨i, is, hi, his, (Option.some.inj h).symm⟩
  · cases h

theorem blockItems_content {kind : PointKind} {parcel factor : Nat} {blocks : List (Epoch × BlockBody)}
    {items : List StuItem} (h : blockItems kind parcel factor blocks = some items) :
    items.map (fun i => (i.parcel, i.kind, i.meterFactor, i.epoch, i.raw))
        = blocks.map (fun x => (parcel, kind, factor, x.1, x.2.raw))
      ∧ items.map (fun i => i.source.map (fun v => (v.1, v.2.gsv, v.2.quals.mask)))
        = blocks.map (fun x => some (x.2.revision, x.2.sourceGsv, x.2.sourceMask)) := by
  induction blocks generalizing items with
  | nil => obtain rfl := Option.some.inj h; exact ⟨rfl, rfl⟩
  | cons x rest ih =>
    obtain ⟨i, is, hi, his, rfl⟩ := blockItems_cons h
    obtain ⟨quals, hmask, rfl⟩ := blockItem_eq hi
    obtain ⟨hcontent, hsource⟩ := ih his
    exact ⟨by rw [List.map_cons, hcontent]; rfl, by rw [List.map_cons, hsource, List.map_cons, ← hmask]; rfl⟩

theorem source_of_mem_blockItems {kind : PointKind} {parcel factor : Nat} {blocks : List (Epoch × BlockBody)}
    {items : List StuItem} (h : blockItems kind parcel factor blocks = some items) :
    ∀ i ∈ items, i.source.isSome = true := by
  induction blocks generalizing items with
  | nil => obtain rfl := Option.some.inj h; simp
  | cons x rest ih =>
    obtain ⟨i, is, hi, his, rfl⟩ := blockItems_cons h
    obtain ⟨quals, -, rfl⟩ := blockItem_eq hi
    exact List.forall_mem_cons.2 ⟨rfl, ih his⟩

/-- R39 of a block with a source, said of the held slot. -/
theorem judgeBlock_iff {held : Option PeerObservation} {i : StuItem} (h : i.source.isSome = true) :
    let revision := (i.source.map (·.1)).getD 0
    let same := held.any (fun o =>
      decide (o.obs.revision = revision ∧ o.obs.raw = i.raw ∧ some o.source = i.source.map (·.2)))
    (judgeBlock held i = .store ↔ held.all (fun o => decide (o.obs.revision < revision)) = true)
      ∧ (judgeBlock held i = .old ↔ held.any (fun o => decide (revision < o.obs.revision)) = true)
      ∧ (judgeBlock held i = .conflict ↔ (held.any (fun o => decide (o.obs.revision = revision)) && !same) = true) := by
  obtain ⟨⟨revision, src⟩, hsource⟩ := Option.isSome_iff_exists.1 h
  cases held with
  | none => simp [judgeBlock]
  | some o =>
    simp only [judgeBlock, hsource, Option.map_some, Option.getD_some, Option.any_some, Option.all_some, Option.some.injEq,
      decide_eq_true_eq, Bool.and_eq_true, Bool.not_eq_true', decide_eq_false_iff_not]
    rcases Nat.lt_trichotomy o.obs.revision revision with hlt | heq | hgt
    · simp [hlt, Nat.lt_asymm hlt, Nat.ne_of_lt hlt]
    · by_cases hsame : o.obs.raw = i.raw ∧ o.source = src
      · simp [heq, hsame]
      · simp [heq, hsame]
    · simp [hgt, Nat.lt_asymm hgt, Nat.ne_of_gt hgt]

theorem setConflict_get (slots : Slots PeerObservation) (e d : Epoch) :
    (setConflict slots e).get d = (slots.get d).map (fun o => { o with conflict := o.conflict || decide (e = d) }) := by
  by_cases h : d = e
  · subst h
    simp [setConflict, Slots.get_set_self]
  · rw [setConflict, Slots.get_set_of_ne h]
    simp [Ne.symm h]

theorem foldl_setConflict_get (items : List StuItem) (slots : Slots PeerObservation) (d : Epoch) :
    (items.foldl (fun sl i => setConflict sl i.epoch) slots).get d =
      (slots.get d).map (fun o => { o with conflict := o.conflict || items.any (fun i => decide (i.epoch = d)) }) := by
  induction items generalizing slots with
  | nil => simp
  | cons i is ih =>
    rw [List.foldl_cons, ih, setConflict_get, Option.map_map]
    congr 1
    funext o
    simp [Bool.or_assoc]

/-- Setting the flags that are not set yet is setting all of them. -/
theorem foldl_setConflict_fresh (items : List StuItem) (slots : Slots PeerObservation) (d : Epoch) :
    ((items.filter (fun i => (slots.get i.epoch).any (fun o => !o.conflict))).foldl
        (fun sl i => setConflict sl i.epoch) slots).get d =
      (slots.get d).map (fun o => { o with conflict := o.conflict || items.any (fun i => decide (i.epoch = d)) }) := by
  rw [foldl_setConflict_get]
  cases hheld : slots.get d with
  | none => rfl
  | some o =>
    cases hconflict : o.conflict with
    | true => simp [hconflict]
    | false =>
      have hfresh (i : StuItem) : ((slots.get i.epoch).any (fun o => !o.conflict) && decide (i.epoch = d)) =
          decide (i.epoch = d) := by
        by_cases h : i.epoch = d
        · simp [h, hheld, hconflict]
        · simp [h]
      simp [List.any_filter, hfresh]

/-! ### FIGURE frames (R37 to R41) -/

theorem State.route_figure {s : State} {slot point kindCode parcel factor : Nat} {blocks : List (Epoch × BlockBody)}
    {kind : PointKind} {items : List StuItem} (hkind : s.kindFor slot point kindCode parcel = some kind)
    (hfactor : meterFactorOk kind factor = true) (hitems : blockItems kind parcel factor blocks = some items) :
    s.route slot (.figure point kindCode parcel factor blocks) = s.figureFrame slot point kind parcel factor items := by
  simp only [State.route, hkind, hfactor, hitems]

/-- The frame goes to the STU with what is to be stored; with nothing to store it goes no further (R41). -/
theorem State.startMerge_eq (slot point : Nat) (kind : PointKind) (parcel factor : Nat) (items : List StuItem) (s : State) :
    s.startMerge slot point kind parcel factor items = { s with
      intake := { s.intake with
        merging := if items = [] then s.intake.merging else some (.figure slot point kind parcel factor none) }
      stu := if items = [] then s.stu else { s.stu with intakeWaiting := some items } } := by
  cases items <;> rfl

/-- Conflicts are counted, and each first setting of a flag is one change of the table (R40, log 12). -/
theorem State.applyConflicts_eq (e : PeerEntry) (items : List StuItem) (s : State) :
    let fresh := items.filter (fun i => (e.slots.get i.epoch).any (fun o => !o.conflict))
    s.applyConflicts e items = { s with
      table := { s.table with
        changeCount := s.table.changeCount + BitVec.ofNat 32 fresh.length
        entries := s.table.entries.map (fun x => if x.slot = e.slot ∧ x.point = e.point then
          { x with slots := fresh.foldl (fun sl i => setConflict sl i.epoch) e.slots } else x) }
      intake := { s.intake with counters := { s.intake.counters with
        conflicts := satAdd s.intake.counters.conflicts items.length } } } := by
  simp only [State.applyConflicts, isEntry_iff]
  rfl

theorem State.figureFrame_of_no_entry {s : State} {slot point : Nat} {items : List StuItem}
    (hentry : s.table.entry? slot point = none) (hitems : items ≠ []) (kind : PointKind) (parcel factor : Nat) :
    s.figureFrame slot point kind parcel factor items =
      if 160 ≤ s.table.entries.length then
        (s.count (fun c => { c with tableFull := satAdd c.tableFull 1 })).raise .tableFull 0
      else s.startMerge slot point kind parcel factor items := by
  have hne : ¬ items.isEmpty = true := by simpa using hitems
  simp only [State.figureFrame, hentry, if_neg hne]
  rfl

theorem State.figureFrame_of_other {s : State} {slot point parcel factor : Nat} {kind : PointKind} {e : PeerEntry}
    (hentry : s.table.entry? slot point = some e) (items : List StuItem)
    (hother : e.kind ≠ kind ∨ e.parcel ≠ parcel ∨ e.meterFactor ≠ factor) :
    s.figureFrame slot point kind parcel factor items = s.countMalformed := by
  simp only [State.figureFrame, hentry]
  exact if_pos (.inr hother)

theorem State.figureFrame_of_entry {s : State} {slot point parcel factor : Nat} {kind : PointKind} {e : PeerEntry}
    {items : List StuItem} (hentry : s.table.entry? slot point = some e) (hitems : items ≠ []) (hkind : e.kind = kind)
    (hparcel : e.parcel = parcel) (hfactor : e.meterFactor = factor) :
    s.figureFrame slot point kind parcel factor items =
      ((s.count (fun c => { c with oldRevisions := satAdd c.oldRevisions (judged e.slots .old items).length })).applyConflicts
        e (judged e.slots .conflict items)).startMerge slot point kind parcel factor (judged e.slots .store items) := by
  simp only [State.figureFrame, hentry]
  exact if_neg (by simp [hitems, hkind, hparcel, hfactor])

/-- Settles O48: the frame as the registry leaves it, then by whether its entry is there and agrees, then block by block. -/
theorem figureFramesAreJudgedBlockByBlock : Obligations.FigureFramesAreJudgedBlockByBlock := by
  intro s f rest point kindCode parcel factor blocks kind items slot haccepts hrole hcode hpoint hparcel hfactor hitems
    hne a c entry merging waiting
  have hmerging : a.intake.merging = none := by
    obtain ⟨⟨-, -, hready⟩, -⟩ := haccepts
    exact (s.registered_merging f rest _).trans hready
  have hkind : a.kindFor slot point kindCode parcel = some kind :=
    State.kindFor_of_good (s.registered_sheet f rest _) hrole hcode hpoint hparcel
  have hexec : exec .intakeTakeFrame s = .next (a.figureFrame slot point kind parcel factor items) :=
    congrArg _ ((State.takeFrame_of_accepts haccepts).trans (State.route_figure hkind hfactor hitems))
  have hentry : entry = a.table.entry? slot point := rfl
  have hmerge (toStu : List StuItem) : (if toStu = [] then a.intake.merging
      else some (Merge.figure slot point kind parcel factor none)) = merging toStu := by rw [hmerging]
  rw [hexec]
  refine ⟨blockItems_content hitems, fun hnone hroom => ?_, fun hnone hfull => ?_, fun e he hother => ?_,
    fun e he hek hep hef => ?_⟩
  · rw [State.figureFrame_of_no_entry (hentry.symm.trans hnone) hne, if_neg (by omega), State.startMerge_eq, hmerge]
  · rw [State.figureFrame_of_no_entry (hentry.symm.trans hnone) hne, if_pos hfull]
    rfl
  · rw [State.figureFrame_of_other (hentry.symm.trans he) items hother]
    rfl
  · intro held revision same toStore old conflicts fresh
    have hsources := source_of_mem_blockItems hitems
    have hstore : judged e.slots .store items = toStore := List.filter_congr fun i hi =>
      Bool.eq_iff_iff.2 (decide_eq_true_iff.trans (judgeBlock_iff (hsources i hi)).1)
    have hold : judged e.slots .old items = old := List.filter_congr fun i hi =>
      Bool.eq_iff_iff.2 (decide_eq_true_iff.trans (judgeBlock_iff (hsources i hi)).2.1)
    have hconflict : judged e.slots .conflict items = conflicts := List.filter_congr fun i hi =>
      Bool.eq_iff_iff.2 (decide_eq_true_iff.trans (judgeBlock_iff (hsources i hi)).2.2)
    obtain ⟨-, heslot, hepoint⟩ := entry?_key (hentry.symm.trans he)
    refine ⟨fresh.foldl (fun sl i => setConflict sl i.epoch) e.slots, ?_, foldl_setConflict_fresh conflicts e.slots⟩
    rw [State.figureFrame_of_entry (hentry.symm.trans he) hne hek hep hef, hstore, hold, hconflict, State.startMerge_eq,
      State.applyConflicts_eq, heslot, hepoint]
    refine congrArg _ (State.eq_of_fields rfl rfl rfl rfl rfl rfl ?_ rfl rfl rfl rfl rfl rfl rfl)
    rw [← hmerge]
    rfl

end Sys2Proof.Machine
end

section
/-! PROOFS. What a computation stores: the side totals and counts, ship adjusted, the ratio and the verdict, and the parcel
qualifiers (03 sections 3.2 to 3.4). -/

namespace Sys2Proof.Machine

/-! ### The view (R48, R51) -/

theorem viewOwn_eq (own : List OwnPoint) (p : Nat) :
    viewOwn own p = own.filter (fun o => decide (o.parcel = p ∧ o.withdrawn = false)) :=
  List.filter_congr fun o _ => by simp

theorem viewEntries_eq (entries : List PeerEntry) (peers : List PeerRecord) (p : Nat) :
    viewEntries entries peers p = entries.filter (fun e =>
      decide (e.parcel = p ∧ (peers.getD e.slot PeerRecord.reset).state ≠ .foreign)) :=
  List.filter_congr fun e _ => by simp

/-- A view has no more points than the reading has records. -/
theorem Reading.points_length_le (r : Reading) (p : Nat) :
    (r.points p).length ≤ r.own.length + r.entries.length := by
  rw [Reading.points, List.length_append, List.length_map, List.length_map]
  exact Nat.add_le_add (List.length_filter_le ..) (List.length_filter_le ..)

/-! ### Moves of a point and totals of a side (R52, R53) -/

/-- The kind of point on a side (R53). -/
def Side.kind (custody : CustodySide) : Side → PointKind
  | .ship => .shipTank
  | .custody => if custody = .tanks then .shoreTank else .meter
  | .check => if custody = .tanks then .meter else .shoreTank

theorem sideOf_eq_iff (kind : PointKind) (custody : CustodySide) (side : Side) :
    sideOf kind custody = side ↔ kind = side.kind custody := by
  cases kind <;> cases custody <;> cases side <;> decide

theorem ViewPoint.used_of_lacking {v : ViewPoint} (h : v.slots.opening = none) : v.used = none := by
  simp [ViewPoint.used, h]

theorem ViewPoint.used_of_opening {v : ViewPoint} {o : Standard} (h : v.slots.opening = some o) :
    v.used = some (o, v.latest o) := by
  rw [ViewPoint.used, h, ViewPoint.latest]
  cases v.slots.closing <;> cases v.slots.interim <;> rfl

/-- R52's table is a sign times latest less opening. -/
theorem ViewPoint.moved_of_opening {v : ViewPoint} {o : Standard} (h : v.slots.opening = some o) (dir : Direction)
    (value : Standard → Nat) : v.moved dir value = moveSign v.kind dir * ((value (v.latest o) : Int) - value o) := by
  rw [ViewPoint.moved, h]
  cases v.kind <;> cases dir <;> simp [moveSign]

theorem contributing_cons (v : ViewPoint) (vs : List ViewPoint) (custody : CustodySide) (side : Side) :
    contributing (v :: vs) custody side =
      (if v.kind = side.kind custody then (v.used.map (fun u => (v, u))).toList else []) ++ contributing vs custody side := by
  rw [contributing, List.filterMap_cons]
  by_cases hkind : v.kind = side.kind custody
  · rw [if_pos ((sideOf_eq_iff ..).2 hkind), if_pos hkind]
    cases v.used <;> rfl
  · rw [if_neg (mt (sideOf_eq_iff ..).1 hkind), if_neg hkind]
    rfl

theorem mem_contributing {vs : List ViewPoint} {custody : CustodySide} {side : Side} {v : ViewPoint}
    {u : Standard × Standard} : (v, u) ∈ contributing vs custody side ↔
      v ∈ vs ∧ v.kind = side.kind custody ∧ ∃ o, v.slots.opening = some o ∧ u = (o, v.latest o) := by
  simp only [contributing, List.mem_filterMap, sideOf_eq_iff]
  constructor
  · rintro ⟨w, hw, hsome⟩
    split at hsome
    · next hkind =>
      obtain ⟨x, hx, heq⟩ := Option.map_eq_some_iff.1 hsome
      obtain ⟨rfl, rfl⟩ := Prod.mk.inj heq
      cases hopening : w.slots.opening with
      | none => rw [ViewPoint.used_of_lacking hopening] at hx; cases hx
      | some o =>
        rw [ViewPoint.used_of_opening hopening] at hx
        exact ⟨hw, hkind, o, rfl, (Option.some.inj hx).symm⟩
    · cases hsome
  · rintro ⟨hv, hkind, o, hopening, rfl⟩
    exact ⟨v, hv, by rw [if_pos hkind, ViewPoint.used_of_opening hopening]; rfl⟩

/-- A side's total of a value is the sum of the moves of the points of its kind; a point without OPENING adds 0. -/
theorem sum_contributing (vs : List ViewPoint) (custody : CustodySide) (side : Side) (dir : Direction)
    (value : Standard → Nat) :
    ((contributing vs custody side).map (fun c => moveSign c.1.kind dir * ((value c.2.2 : Int) - value c.2.1))).sum =
      ((vs.filter (fun v => decide (v.kind = side.kind custody))).map (ViewPoint.moved dir value)).sum := by
  induction vs with
  | nil => rfl
  | cons v vs ih =>
    rw [contributing_cons, List.map_append, List.sum_append, ih]
    by_cases hkind : v.kind = side.kind custody
    · rw [if_pos hkind, List.filter_cons_of_pos (by simpa using hkind), List.map_cons, List.sum_cons]
      cases hopening : v.slots.opening with
      | none => simp [ViewPoint.used_of_lacking hopening, ViewPoint.moved, hopening]
      | some o => simp [ViewPoint.used_of_opening hopening, ViewPoint.moved_of_opening hopening]
    · rw [if_neg hkind, List.filter_cons_of_neg (by simpa using hkind)]
      simp

theorem length_contributing (vs : List ViewPoint) (custody : CustodySide) (side : Side) :
    (contributing vs custody side).length =
      (vs.filter (fun v => decide (v.kind = side.kind custody) && v.slots.opening.isSome)).length := by
  induction vs with
  | nil => rfl
  | cons v vs ih =>
    rw [contributing_cons, List.length_append, ih]
    by_cases hkind : v.kind = side.kind custody
    · cases hopening : v.slots.opening with
      | none => simp [hkind, ViewPoint.used_of_lacking hopening, hopening]
      | some o => simp [hkind, ViewPoint.used_of_opening hopening, hopening, Nat.add_comm]
    · simp [hkind]

/-- Every point of a view is on one side or lacks its OPENING (R54). -/
theorem counts_add_up (vs : List ViewPoint) (custody : CustodySide) :
    (contributing vs custody .ship).length + (contributing vs custody .custody).length
        + (contributing vs custody .check).length + (vs.filter (fun v => v.slots.opening.isNone)).length = vs.length := by
  induction vs with
  | nil => rfl
  | cons v vs ih =>
    simp only [contributing_cons, List.length_append, List.length_cons]
    cases hopening : v.slots.opening with
    | none =>
      rw [List.filter_cons_of_pos (by simp [hopening])]
      simp only [ViewPoint.used_of_lacking hopening, Option.map_none, Option.toList_none, ite_self, List.length_nil,
        List.length_cons]
      omega
    | some o =>
      have hside : ([Side.ship, .custody, .check].map (fun side => if v.kind = side.kind custody then 1 else 0)).sum = 1 := by
        cases v.kind <;> cases custody <;> rfl
      have hlength (side : Side) : (if v.kind = side.kind custody then (v.used.map (fun u => (v, u))).toList else []).length =
          if v.kind = side.kind custody then 1 else 0 := by
        rw [ViewPoint.used_of_opening hopening]
        split <;> rfl
      rw [List.filter_cons_of_neg (by simp [hopening])]
      simp only [hlength]
      simp only [List.map_cons, List.map_nil, List.sum_cons, List.sum_nil] at hside
      omega

theorem compute_counts (sh : Sheet) (d : ParcelDef) (r : Reading) :
    let c := compute sh d r
    c.shipCount + c.custodyCount + c.checkCount + c.lackingCount = (r.points d.number).length :=
  counts_add_up (r.points d.number) d.custody

/-- Settles O33: each side's total by `sum_contributing`, each count by `length_contributing`. -/
theorem sideTotalsAreSumsOfMoves : Obligations.SideTotalsAreSumsOfMoves := by
  intro sh d r c own entries view custody check total count
  have hview : r.points d.number = view := by rw [Reading.points, viewOwn_eq, viewEntries_eq]
  have htotal (side : Side) (value : Standard → Nat) :
      ((contributing (r.points d.number) d.custody side).map
        (fun c => moveSign c.1.kind sh.header.direction * ((value c.2.2 : Int) - value c.2.1))).sum
        = total (side.kind d.custody) value := by
    rw [sum_contributing, hview]
  have hcount (side : Side) : (contributing (r.points d.number) d.custody side).length = count (side.kind d.custody) := by
    rw [length_contributing, hview]
  refine ⟨htotal .ship _, htotal .custody _, htotal .check _, htotal .ship _, htotal .custody _, htotal .check _,
    hcount .ship, hcount .custody, hcount .check, ?_, (compute_counts sh d r).trans (congrArg _ hview)⟩
  rw [← hview]
  rfl

/-! ### Ship adjusted, the ratio and the verdict (section 3.3) -/

/-- A ratio has a basis: both sides have a contributing point, and ship adjusted is not 0 (R56). -/
abbrev ParcelResult.HasBasis (c : ParcelResult) : Prop := c.shipCount ≠ 0 ∧ c.custodyCount ≠ 0 ∧ c.shipAdjusted ≠ 0

/-- The ratio before the clamp (R57). -/
def ParcelResult.raw (c : ParcelResult) : Int := rawRatio c.difference c.shipAdjusted

theorem isEmpty_contributing (vs : List ViewPoint) (custody : CustodySide) (side : Side) :
    (contributing vs custody side).isEmpty = decide ((contributing vs custody side).length = 0) := by
  cases contributing vs custody side <;> rfl

theorem compute_basis (sh : Sheet) (d : ParcelDef) (r : Reading) :
    (!(contributing (r.points d.number) d.custody .ship).isEmpty
        && !(contributing (r.points d.number) d.custody .custody).isEmpty
        && decide ((compute sh d r).shipAdjusted ≠ 0)) = decide (compute sh d r).HasBasis := by
  rw [isEmpty_contributing, isEmpty_contributing, ← decide_not, ← decide_not, ← Bool.decide_and, ← Bool.decide_and]
  exact decide_eq_decide.2 and_assoc

theorem compute_of_basis {sh : Sheet} {d : ParcelDef} {r : Reading} (h : (compute sh d r).HasBasis) :
    (compute sh d r).ratio = some (clampRatio (compute sh d r).raw)
      ∧ (compute sh d r).verdict = verdictOf d.inner d.outer (clampRatio (compute sh d r).raw) := by
  have hbasis := (compute_basis sh d r).trans (decide_eq_true h)
  exact ⟨if_pos hbasis, if_pos hbasis⟩

theorem compute_of_no_basis {sh : Sheet} {d : ParcelDef} {r : Reading} (h : ¬ (compute sh d r).HasBasis) :
    (compute sh d r).verdict = .noBasis ∧ (compute sh d r).ratio = none := by
  have hbasis := Bool.eq_false_iff.1 ((compute_basis sh d r).trans (decide_eq_false h))
  exact ⟨if_neg hbasis, if_neg hbasis⟩

/-- Every kind of point is on a side. -/
theorem exists_side (kind : PointKind) (custody : CustodySide) : ∃ side : Side, kind = side.kind custody :=
  ⟨_, (sideOf_eq_iff kind custody _).1 rfl⟩

/-- The observations a computation uses are the OPENING and the latest of each point that holds an OPENING (R61). -/
theorem exists_used (vs : List ViewPoint) (custody : CustodySide) (P : ViewPoint × (Standard × Standard) → Prop) :
    (∃ c ∈ contributing vs custody .ship ++ contributing vs custody .custody ++ contributing vs custody .check, P c) ↔
      ∃ v ∈ vs, ∃ o, v.slots.opening = some o ∧ P (v, o, v.latest o) := by
  have hmem (c : ViewPoint × (Standard × Standard)) :
      c ∈ contributing vs custody .ship ++ contributing vs custody .custody ++ contributing vs custody .check ↔
        ∃ side, c ∈ contributing vs custody side := by
    simp only [List.mem_append]
    constructor
    · rintro ((h | h) | h) <;> exact ⟨_, h⟩
    · rintro ⟨_ | _ | _, h⟩
      · exact .inl (.inl h)
      · exact .inl (.inr h)
      · exact .inr h
  simp only [hmem]
  constructor
  · rintro ⟨⟨v, u⟩, ⟨side, hc⟩, hP⟩
    obtain ⟨hv, -, o, hopening, rfl⟩ := mem_contributing.1 hc
    exact ⟨v, hv, o, hopening, hP⟩
  · rintro ⟨v, hv, o, hopening, hP⟩
    obtain ⟨side, hside⟩ := exists_side v.kind custody
    exact ⟨_, ⟨side, mem_contributing.2 ⟨hv, hside, o, hopening, rfl⟩⟩, hP⟩

theorem compute_limited_iff (sh : Sheet) (d : ParcelDef) (r : Reading) :
    (compute sh d r).quals.limited = true ↔
      (∃ v ∈ r.points d.number, ∃ o, v.slots.opening = some o ∧ (o.quals ≠ {} ∨ (v.latest o).quals ≠ {}))
      ∨ ((compute sh d r).HasBasis ∧ clampRatio (compute sh d r).raw ≠ (compute sh d r).raw) := by
  have hlimited : (compute sh d r).quals.limited =
      ((contributing (r.points d.number) d.custody .ship ++ contributing (r.points d.number) d.custody .custody
          ++ contributing (r.points d.number) d.custody .check).any
            (fun c => !c.2.1.quals.isEmpty || !c.2.2.quals.isEmpty)
        || (decide (compute sh d r).HasBasis && decide (clampRatio (compute sh d r).raw ≠ (compute sh d r).raw))) := by
    rw [← compute_basis]
    rfl
  rw [hlimited, Bool.or_eq_true, List.any_eq_true, exists_used, Bool.and_eq_true, decide_eq_true_eq, decide_eq_true_eq]
  simp only [Bool.or_eq_true, Bool.not_eq_true', Bool.eq_false_iff, Ne, ObsQuals.isEmpty_iff]

/-- Multiplied by 100,000 and divided, rounded half away from zero (R55, R57). -/
theorem divHalfAway_scaled (a : Int) {d : Nat} (h : 0 < d) :
    2 * d * (divHalfAway (a * 100000) d).natAbs ≤ 2 * (100000 * a.natAbs) + d
      ∧ 2 * (100000 * a.natAbs) + d < 2 * d * ((divHalfAway (a * 100000) d).natAbs + 1) := by
  have hscaled : (a * 100000).natAbs = 100000 * a.natAbs := by omega
  rw [← hscaled]
  exact divHalfAway_natAbs _ h

/-- A divisor of less than 200,000 leaves no value that is not 0 at 0, so the quotient has the dividend's sign (R55). -/
theorem divHalfAway_scaled_sign (a : Int) {d : Nat} (hpos : 0 < d) (hlt : d < 200000) :
    (0 < a ↔ 0 < divHalfAway (a * 100000) d) ∧ (a < 0 ↔ divHalfAway (a * 100000) d < 0) := by
  obtain ⟨hlow, hhigh⟩ := divHalfAway_scaled a hpos
  obtain ⟨hnonneg, hneg⟩ := divHalfAway_sign (a * 100000) d
  have hzero : divHalfAway (a * 100000) d = 0 ↔ a = 0 := by
    constructor
    · intro h
      rw [h, Int.natAbs_zero, Nat.zero_add, Nat.mul_one] at hhigh
      omega
    · rintro rfl
      by_contra hne
      have hone : 1 ≤ (divHalfAway (0 * 100000) d).natAbs := Int.natAbs_pos.2 hne
      have := Nat.mul_le_mul_left (2 * d) hone
      omega
  omega

theorem rawRatio_natAbs (difference adjusted : Int) :
    (rawRatio difference adjusted).natAbs = (divHalfAway (difference * 100000) adjusted.natAbs).natAbs := by
  unfold rawRatio
  dsimp only
  split
  · exact Int.natAbs_neg _
  · rfl

/-- The ratio's sign is that of the difference, reversed when ship adjusted is negative (R57). -/
theorem rawRatio_sign (difference adjusted : Int) :
    (0 < difference * adjusted → 0 ≤ rawRatio difference adjusted)
      ∧ (difference * adjusted < 0 → rawRatio difference adjusted ≤ 0) := by
  obtain ⟨hnonneg, hneg⟩ := divHalfAway_sign (difference * 100000) adjusted.natAbs
  unfold rawRatio
  dsimp only
  constructor
  · intro h
    rcases pos_and_pos_or_neg_and_neg_of_mul_pos h with ⟨hd, ha⟩ | ⟨hd, ha⟩ <;> split <;> omega
  · intro h
    rcases mul_neg_iff.1 h with ⟨hd, ha⟩ | ⟨hd, ha⟩ <;> split <;> omega

theorem clampRatio_eq (r : Int) : clampRatio r = if r < -99999 then -99999 else if 99999 < r then 99999 else r := by
  unfold clampRatio
  split <;> [skip; split] <;> omega

theorem clampRatio_ne_iff (r : Int) : clampRatio r ≠ r ↔ r < -99999 ∨ 99999 < r := by
  unfold clampRatio
  omega

theorem verdictOf_cases (inner outer : Nat) (ratio : Int) :
    (ratio.natAbs ≤ inner → verdictOf inner outer ratio = .within)
      ∧ (inner < ratio.natAbs → ratio.natAbs ≤ outer → verdictOf inner outer ratio = .marginal)
      ∧ (inner < ratio.natAbs → outer < ratio.natAbs → verdictOf inner outer ratio = .outside) :=
  ⟨fun h => if_pos h, fun hi ho => (if_neg (by omega)).trans (if_pos ho),
    fun hi ho => (if_neg (by omega)).trans (if_neg (by omega))⟩

/-- Settles O34: ship adjusted and the ratio are one rounded division each, and the bands are compared in order. -/
theorem adjustedDifferenceRatioAndVerdict : Obligations.AdjustedDifferenceRatioAndVerdict := by
  intro sh d r hvefLow hvefHigh hbands houter c total adjusted basis
  obtain ⟨hlow, hhigh⟩ := divHalfAway_scaled total (show 0 < d.vef by omega)
  obtain ⟨hpos, hneg⟩ := divHalfAway_scaled_sign total (show 0 < d.vef by omega) (by omega)
  have hadjusted : adjusted = divHalfAway (total * 100000) d.vef := rfl
  rw [← hadjusted] at hlow hhigh hpos hneg
  refine ⟨hlow, hhigh, hpos, hneg, by omega, rfl, compute_of_no_basis, fun hbasis => ⟨c.raw, ?_⟩⟩
  obtain ⟨hratio, hverdict⟩ := compute_of_basis hbasis
  obtain ⟨hwithin, hmarginal, houtside⟩ := verdictOf_cases d.inner d.outer (clampRatio c.raw)
  obtain ⟨-, -, hadjustedNe⟩ := id hbasis
  obtain ⟨hrawLow, hrawHigh⟩ := divHalfAway_scaled c.difference (Int.natAbs_pos.2 hadjustedNe)
  rw [← rawRatio_natAbs] at hrawLow hrawHigh
  obtain ⟨hrawPos, hrawNeg⟩ := rawRatio_sign c.difference adjusted
  refine ⟨hrawLow, hrawHigh, hrawPos, hrawNeg,
    fun hclamped => (compute_limited_iff sh d r).2 (.inr ⟨hbasis, (clampRatio_ne_iff _).2 hclamped⟩),
    clampRatio c.raw, hratio, clampRatio_eq _, ?_⟩
  rw [hverdict]
  exact ⟨hwithin, hmarginal, fun ho => houtside (by omega) ho, fun heq => houtside (by omega) (by omega)⟩

/-! ### The parcel qualifiers (section 3.4) -/

/-- The roster station of a slot. -/
def stationAt (sh : Sheet) (peers : List PeerRecord) (i : Nat) : Station :=
  { slot := i, role := sh.roster.getD i .empty, peer := peers.getD i PeerRecord.reset }

/-- A slot has a roster station: it is not the own slot and its role is not EMPTY. -/
abbrev Sheet.HasStation (sh : Sheet) (i : Nat) : Prop :=
  i < 16 ∧ i ≠ sh.header.ownSlot ∧ sh.roster.getD i .empty ≠ .empty

theorem mem_rosterStations {sh : Sheet} {peers : List PeerRecord} {st : Station} :
    st ∈ rosterStations sh peers ↔ ∃ i, sh.HasStation i ∧ stationAt sh peers i = st := by
  simp only [rosterStations, List.mem_filterMap, List.mem_range]
  constructor
  · rintro ⟨i, hi, hsome⟩
    split at hsome
    · next hstation => exact ⟨i, ⟨hi, hstation⟩, Option.some.inj hsome⟩
    · cases hsome
  · rintro ⟨i, ⟨hi, hstation⟩, rfl⟩
    exact ⟨i, hi, if_pos hstation⟩

theorem any_rosterStations (sh : Sheet) (peers : List PeerRecord) (f : Station → Bool) :
    (rosterStations sh peers).any f = true ↔ ∃ i, sh.HasStation i ∧ f (stationAt sh peers i) = true := by
  rw [List.any_eq_true]
  constructor
  · rintro ⟨st, hst, hf⟩
    obtain ⟨i, hi, rfl⟩ := mem_rosterStations.1 hst
    exact ⟨i, hi, hf⟩
  · rintro ⟨i, hi, hf⟩
    exact ⟨_, mem_rosterStations.2 ⟨i, hi, rfl⟩, hf⟩

theorem all_rosterStations (sh : Sheet) (peers : List PeerRecord) (f : Station → Bool) :
    (rosterStations sh peers).all f = true ↔ ∀ i, sh.HasStation i → f (stationAt sh peers i) = true := by
  rw [List.all_eq_true]
  constructor
  · exact fun h i hi => h _ (mem_rosterStations.2 ⟨i, hi, rfl⟩)
  · intro h st hst
    obtain ⟨i, hi, rfl⟩ := mem_rosterStations.1 hst
    exact h i hi

theorem Station.declares_iff {st : Station} {p : Nat} (hp : 1 ≤ p) :
    st.declares p = true ↔ st.peer.declaredMask.getLsbD (p - 1) = true := by
  simp [Station.declares, parcelIn, hp]

theorem Role.pointKind_isSome_iff (r : Role) :
    r.pointKind.isSome = true ↔ r = .ship ∨ r = .shoreTanks ∨ r = .shoreMeters := by
  cases r <;> decide

/-- R59's second to fourth conditions, by the state of the station. -/
theorem Station.lacks_iff {st : Station} {entries : List PeerEntry} {p : Nat} (hp : 1 ≤ p) :
    st.lacks entries p = true ↔
      ((st.peer.state = .present ∨ st.peer.state = .absent) ∧ st.peer.declaredMask.getLsbD (p - 1) = true
        ∧ (entries.filter (fun e => decide (e.slot = st.slot))).length < st.peer.declaredCount)
      ∨ (st.peer.state = .absent ∧ st.peer.declaredMask.getLsbD (p - 1) = true)
      ∨ (st.peer.state = .unheard ∧ (st.role = .ship ∨ st.role = .shoreTanks ∨ st.role = .shoreMeters)) := by
  unfold Station.lacks
  cases hstate : st.peer.state with
  | present => simp [Station.declares_iff hp]
  | absent =>
    simp only [Station.declares_iff hp]
    tauto
  | unheard => simp [Role.pointKind_isSome_iff]
  | foreign => simp

theorem PeerEntry.view_opening (e : PeerEntry) : e.view.slots.opening.isSome = e.slots.opening.isSome := Option.isSome_map

/-- Of a view's points only those of entries have a station. -/
theorem exists_view_station {own : List OwnPoint} {entries : List PeerEntry} {P : Nat → Prop} :
    (∃ v ∈ own.map OwnPoint.view ++ entries.map PeerEntry.view,
        ∃ o, v.slots.opening = some o ∧ ∃ sl, v.station = some sl ∧ P sl)
      ↔ ∃ e ∈ entries, e.slots.opening.isSome = true ∧ P e.slot := by
  constructor
  · rintro ⟨v, hv, o, hopening, sl, hstation, hP⟩
    rcases List.mem_append.1 hv with hv | hv
    · obtain ⟨q, -, rfl⟩ := List.mem_map.1 hv
      cases hstation
    · obtain ⟨e, he, rfl⟩ := List.mem_map.1 hv
      obtain rfl := Option.some.inj hstation
      exact ⟨e, he, by rw [← e.view_opening, hopening]; rfl, hP⟩
  · rintro ⟨e, he, hopening, hP⟩
    rw [← e.view_opening] at hopening
    obtain ⟨o, ho⟩ := Option.isSome_iff_exists.1 hopening
    exact ⟨e.view, List.mem_append_right _ (List.mem_map_of_mem he), o, ho, e.slot, rfl, hP⟩

theorem compute_isPartial_iff (sh : Sheet) (d : ParcelDef) (r : Reading) :
    (compute sh d r).quals.isPartial = true ↔
      0 < (compute sh d r).lackingCount
        ∨ ∃ i, sh.HasStation i ∧ (stationAt sh r.peers i).lacks r.entries d.number = true := by
  have hpartial : (compute sh d r).quals.isPartial = (decide (0 < (compute sh d r).lackingCount)
      || (rosterStations sh r.peers).any (fun st => st.lacks r.entries d.number)) := rfl
  rw [hpartial, Bool.or_eq_true, decide_eq_true_eq, any_rosterStations]

theorem compute_stale_iff (sh : Sheet) (d : ParcelDef) (r : Reading) :
    (compute sh d r).quals.stale = true ↔
      ∃ e ∈ viewEntries r.entries r.peers d.number, e.slots.opening.isSome = true
        ∧ (r.peers.getD e.slot PeerRecord.reset).state = .absent := by
  have hstale : (compute sh d r).quals.stale =
      (contributing (r.points d.number) d.custody .ship ++ contributing (r.points d.number) d.custody .custody
          ++ contributing (r.points d.number) d.custody .check).any (fun c => c.1.station.any (fun sl =>
            decide ((r.peers.getD sl PeerRecord.reset).state = .absent))) := rfl
  rw [hstale, List.any_eq_true, exists_used, Reading.points]
  simp only [Option.any_eq_true, decide_eq_true_eq]
  exact exists_view_station (P := fun sl => (r.peers.getD sl PeerRecord.reset).state = .absent)

theorem compute_closed_iff (sh : Sheet) (d : ParcelDef) (r : Reading) :
    (compute sh d r).quals.closed = true ↔ (compute sh d r).quals.isPartial = false ∧ r.points d.number ≠ []
      ∧ ∀ v ∈ r.points d.number, v.slots.closing.isSome = true := by
  have hclosed : (compute sh d r).quals.closed = (!(compute sh d r).quals.isPartial && !(r.points d.number).isEmpty
      && (r.points d.number).all (fun v => v.slots.closing.isSome)) := rfl
  rw [hclosed]
  simp [and_assoc]

theorem compute_definitive_iff {sh : Sheet} {d : ParcelDef} (hd : 1 ≤ d.number) (r : Reading) :
    (compute sh d r).quals.definitive = true ↔ (compute sh d r).quals.closed = true ∧ r.node = .final
      ∧ ∀ i, sh.HasStation i → (r.peers.getD i PeerRecord.reset).state = .present →
        (r.peers.getD i PeerRecord.reset).declaredMask.getLsbD (d.number - 1) = true →
        (r.peers.getD i PeerRecord.reset).finalised = true := by
  have hdefinitive : (compute sh d r).quals.definitive = ((compute sh d r).quals.closed && decide (r.node = .final)
      && (rosterStations sh r.peers).all (fun st =>
        !(decide (st.peer.state = .present) && st.declares d.number) || st.peer.finalised)) := rfl
  rw [hdefinitive, Bool.and_eq_true, Bool.and_eq_true, decide_eq_true_eq, all_rosterStations, and_assoc]
  refine and_congr_right' (and_congr_right' (forall₂_congr fun i _ => ?_))
  rw [Bool.or_eq_true, Bool.not_eq_true', ← Bool.not_eq_true, Bool.and_eq_true, decide_eq_true_eq,
    Station.declares_iff hd, ← imp_iff_not_or, and_imp]
  rfl

/-- Settles O35: each qualifier by its own condition, of the view's points or of the roster stations. -/
theorem parcelQualifiersSayWhatIsMissing : Obligations.ParcelQualifiersSayWhatIsMissing := by
  intro sh d r hd _ c own entries view peer role station declares held
  have hentries : viewEntries r.entries r.peers d.number = entries := viewEntries_eq ..
  have hview : r.points d.number = view := by rw [Reading.points, viewOwn_eq, hentries]
  refine ⟨(compute_isPartial_iff sh d r).trans (or_congr_right (exists_congr fun i => and_congr_right fun _ =>
      Station.lacks_iff hd)), hentries ▸ compute_stale_iff sh d r, ?_, hview ▸ compute_closed_iff sh d r,
    compute_definitive_iff hd r⟩
  refine (hview ▸ compute_limited_iff sh d r).trans (or_congr_right ?_)
  rw [clampRatio_ne_iff, and_assoc, and_assoc]
  rfl

end Sys2Proof.Machine
end

section
/-! PROOFS. The Balance Engine's queue and computations: recompute requests, what is read while the table changes, and the
completions (03 sections 3.5, 3.6). -/

namespace Sys2Proof.Machine

/-! ### The records of the engine -/

theorem BalanceEngine.modify_parcels (b : BalanceEngine) (p : Nat) {f : ParcelRecord → ParcelRecord}
    (hf : ∀ r, (f r).parcel = r.parcel) : (b.modify p f).records.map (·.parcel) = b.records.map (·.parcel) := by
  rw [BalanceEngine.modify, List.map_map]
  refine List.map_congr_left fun r _ => ?_
  rw [Function.comp_apply, apply_ite ParcelRecord.parcel, hf, ite_self]

/-- The record of the parcel changes, the others stay. -/
theorem BalanceEngine.forall_mem_modify {b : BalanceEngine} {p : Nat} {f : ParcelRecord → ParcelRecord}
    {P : ParcelRecord → Prop} (hown : ∀ r ∈ b.records, r.parcel = p → P (f r))
    (hothers : ∀ r ∈ b.records, r.parcel ≠ p → P r) : ∀ r ∈ (b.modify p f).records, P r := by
  intro q hq
  obtain ⟨r, hr, rfl⟩ := List.mem_map.1 hq
  split
  · exact hown r hr ‹_›
  · exact hothers r hr ‹_›

/-- No two parcel records are of one parcel (R64). -/
theorem BalanceEngine.record_unique {b : BalanceEngine} (h : Ascending (b.records.map (·.parcel))) {q r : ParcelRecord}
    (hq : q ∈ b.records) (hr : r ∈ b.records) (hparcel : q.parcel = r.parcel) : q = r :=
  List.inj_on_of_nodup_map h.nodup hq hr hparcel

theorem BalanceEngine.find?_parcel {b : BalanceEngine} {p : Nat} {r : ParcelRecord}
    (h : b.records.find? (fun r => decide (r.parcel = p)) = some r) : r ∈ b.records ∧ r.parcel = p :=
  ⟨List.mem_of_find?_eq_some h, of_decide_eq_true (List.find?_some (p := fun r : ParcelRecord => decide (r.parcel = p)) h)⟩

theorem BalanceEngine.status?_of_mem {b : BalanceEngine} (h : Ascending (b.records.map (·.parcel))) {r : ParcelRecord}
    (hr : r ∈ b.records) : b.status? r.parcel = some r.status := by
  obtain ⟨q, hq⟩ := Option.isSome_iff_exists.1
    (List.find?_isSome (p := fun q => decide (q.parcel = r.parcel)).2 ⟨r, hr, decide_eq_true rfl⟩)
  obtain ⟨hmem, hparcel⟩ := BalanceEngine.find?_parcel hq
  rw [BalanceEngine.status?, hq, BalanceEngine.record_unique h hmem hr hparcel]
  rfl

theorem BalanceEngine.status_of_status? {b : BalanceEngine} (h : Ascending (b.records.map (·.parcel))) {p : Nat}
    {st : ComputeStatus} (hst : b.status? p = some st) :
    p ∈ b.records.map (·.parcel) ∧ ∀ r ∈ b.records, r.parcel = p → r.status = st := by
  obtain ⟨q, hq, rfl⟩ := Option.map_eq_some_iff.1 hst
  obtain ⟨hmem, rfl⟩ := BalanceEngine.find?_parcel hq
  exact ⟨List.mem_map_of_mem hmem, fun r hr hparcel => by rw [BalanceEngine.record_unique h hr hmem hparcel]⟩

/-! ### The queue and the statuses (R65) -/

theorem QueueInv.ascending {b : BalanceEngine} (h : QueueInv b) : Ascending (b.records.map (·.parcel)) := by
  obtain ⟨hascending, -⟩ := h
  exact hascending

theorem QueueInv.nodup {b : BalanceEngine} (h : QueueInv b) : b.queue.Nodup := by
  obtain ⟨-, hnodup, -⟩ := h
  exact hnodup

/-- One record changes, and the queue for its parcel alone. -/
theorem QueueInv.modify {b e : BalanceEngine} {p : Nat} {f : ParcelRecord → ParcelRecord} (h : QueueInv b)
    (hrecords : e.records = (b.modify p f).records) (hf : ∀ r, (f r).parcel = r.parcel)
    (hp : p ∈ b.records.map (·.parcel)) (hnodup : e.queue.Nodup)
    (hothers : ∀ n, n ≠ p → (n ∈ e.queue ↔ n ∈ b.queue))
    (hown : ∀ r ∈ b.records, r.parcel = p → ((f r).status = .queued ↔ p ∈ e.queue)) : QueueInv e := by
  obtain ⟨hascending, -, hheld, hstatus⟩ := h
  have hparcels : e.records.map (·.parcel) = b.records.map (·.parcel) := by rw [hrecords, b.modify_parcels p hf]
  refine ⟨hparcels ▸ hascending, hnodup, fun n hn => ?_, ?_⟩
  · rw [hparcels]
    by_cases hnp : n = p
    · exact hnp ▸ hp
    · exact hheld n ((hothers n hnp).1 hn)
  · rw [hrecords]
    refine BalanceEngine.forall_mem_modify (fun r hr hparcel => ?_) (fun r hr hparcel => ?_)
    · rw [hf, hparcel]
      exact hown r hr hparcel
    · rw [hothers _ hparcel]
      exact hstatus r hr

/-- A parcel that is not QUEUED is not in the queue. -/
theorem QueueInv.not_mem {b : BalanceEngine} (h : QueueInv b) {p : Nat} {st : ComputeStatus} (hst : b.status? p = some st)
    (hne : st ≠ .queued) : p ∉ b.queue := by
  obtain ⟨hascending, -, hheld, hstatus⟩ := h
  intro hp
  obtain ⟨r, hr, rfl⟩ := List.mem_map.1 (hheld p hp)
  obtain ⟨-, hall⟩ := BalanceEngine.status_of_status? hascending hst
  exact hne ((hall r hr rfl).symm.trans ((hstatus r hr).2 hp))

theorem QueueInv.note {b : BalanceEngine} (h : QueueInv b) (now : Reading) : QueueInv (b.note now) := by
  rcases b.note_cases now with heq | ⟨-, heq⟩ <;> rw [heq] <;> exact h

/-- A recompute request keeps the queue's form (R65). -/
theorem QueueInv.request {b : BalanceEngine} (h : QueueInv b) (now : Reading) (p : Nat) : QueueInv (b.request now p) := by
  have hascending : Ascending ((b.note now).records.map (·.parcel)) := by
    rw [BalanceEngine.note_records]
    exact h.ascending
  rcases b.request_cases now p with ⟨hst, heq⟩ | ⟨hst, heq⟩ | ⟨-, heq⟩
  · have hnot := h.not_mem hst (by decide)
    rw [heq]
    rw [← b.note_status? now] at hst
    refine (h.note now).modify (p := p) (f := fun r => { r with status := .queued }) rfl (fun _ => rfl)
      (BalanceEngine.status_of_status? hascending hst).1 ?_ (fun n hn => ?_) (fun _ _ _ => by simp)
    · exact List.nodup_append_comm.1 (List.nodup_cons.2 ⟨hnot, h.nodup⟩)
    · simp [hn]
  · have hnot := h.not_mem hst (by decide)
    rw [heq]
    rw [← b.note_status? now] at hst
    refine (h.note now).modify (p := p) (f := fun r => { r with status := .computingRedo }) rfl (fun _ => rfl)
      (BalanceEngine.status_of_status? hascending hst).1 ?_ (fun n hn => Iff.rfl) (fun _ _ _ => ?_)
    · exact (h.note now).nodup
    · have hqueue : p ∉ ((b.note now).setStatus p .computingRedo).queue := by
        rwa [BalanceEngine.setStatus, BalanceEngine.modify_queue, BalanceEngine.note_queue]
      simpa using hqueue
  · exact heq ▸ h.note now

/-- The queue holds each parcel once, so at most as many as there are. -/
theorem QueueInv.queue_length_le {b : BalanceEngine} (h : QueueInv b)
    (hrange : ∀ p ∈ b.records.map (·.parcel), 1 ≤ p ∧ p ≤ 8) : b.queue.length ≤ 8 := by
  obtain ⟨-, hnodup, hheld, -⟩ := h
  refine (hnodup.subperm (l₂ := parcelNumbers) fun p hp => ?_).length_le
  obtain ⟨hlow, hhigh⟩ := hrange p (hheld p hp)
  simp only [parcelNumbers, List.mem_cons, List.not_mem_nil, or_false]
  omega

theorem BalanceEngine.note_eq (now : Reading) (b : BalanceEngine) : b.note now =
    { b with seen := if b.computing.isSome ∧ b.seen.getLast? ≠ some now then b.seen ++ [now] else b.seen } := by
  unfold BalanceEngine.note
  split <;> rfl

theorem BalanceEngine.request_of_idle {b : BalanceEngine} {p : Nat} (h : b.status? p = some .idle) (now : Reading) :
    b.request now p = { (b.note now).setStatus p .queued with queue := b.queue ++ [p] } := by
  rcases b.request_cases now p with ⟨-, heq⟩ | ⟨hst, -⟩ | ⟨hst, -⟩
  · exact heq
  · simp [h] at hst
  · simp [h] at hst

theorem BalanceEngine.request_of_computing {b : BalanceEngine} {p : Nat} (h : b.status? p = some .computing) (now : Reading) :
    b.request now p = (b.note now).setStatus p .computingRedo := by
  rcases b.request_cases now p with ⟨hst, -⟩ | ⟨-, heq⟩ | ⟨hst, -⟩
  · simp [h] at hst
  · exact heq
  · simp [h] at hst

/-- A parcel that is to be computed anyway. -/
theorem BalanceEngine.request_of_due {b : BalanceEngine} {p : Nat} {st : ComputeStatus} (h : b.status? p = some st)
    (hdue : st = .queued ∨ st = .computingRedo) (now : Reading) : b.request now p = b.note now := by
  rcases b.request_cases now p with ⟨hst, -⟩ | ⟨hst, -⟩ | ⟨-, heq⟩
  · obtain rfl := Option.some.inj (h.symm.trans hst)
    simp at hdue
  · obtain rfl := Option.some.inj (h.symm.trans hst)
    simp at hdue
  · exact heq

/-- Settles O31: the request by the record's status, and the queue's form from `QueueInv.request`. -/
theorem recomputeRequestActsOnTheStatus : Obligations.RecomputeRequestActsOnTheStatus := by
  intro now b r hqueue hr after withStatus kept
  have hst := BalanceEngine.status?_of_mem hqueue.ascending hr
  have hafter : QueueInv after := hqueue.request now r.parcel
  have hparcels : after.records.map (·.parcel) = b.records.map (·.parcel) := b.request_parcels now r.parcel
  refine ⟨hafter, fun h => ?_, fun h => ?_, fun h => ?_, fun h => ?_,
    fun hrange => hafter.queue_length_le (hparcels ▸ List.forall_mem_map.2 hrange)⟩
  · rw [h] at hst
    refine (BalanceEngine.request_of_idle hst now).trans ?_
    rw [BalanceEngine.note_eq]
    rfl
  · exact (BalanceEngine.request_of_due hst (.inl h) now).trans (b.note_eq now)
  · rw [h] at hst
    refine (BalanceEngine.request_of_computing hst now).trans ?_
    rw [BalanceEngine.note_eq]
    rfl
  · exact (BalanceEngine.request_of_due hst (.inr h) now).trans (b.note_eq now)

/-! ### What a computation reads while the table changes (R67, log 11) -/

theorem nodup_eraseDups {α : Type} [BEq α] [LawfulBEq α] : ∀ l : List α, l.eraseDups.Nodup
  | [] => by rw [List.eraseDups_nil]; exact List.nodup_nil
  | x :: xs => by
    rw [List.eraseDups_cons]
    refine List.nodup_cons.2 ⟨by simp, nodup_eraseDups _⟩
termination_by l => l.length
decreasing_by exact Nat.lt_succ_of_le (List.length_filter_le ..)

section Keyed

variable {α κ : Type} {key : α → κ} {pick : κ → Option α}

/-- What is picked for some keys stands under those keys, in their order. -/
theorem keys_picked_sublist (hpick : ∀ k x, pick k = some x → key x = k) (ks : List κ) :
    ((ks.filterMap pick).map key).Sublist ks := by
  induction ks with
  | nil => exact .slnil
  | cons k ks ih =>
    cases h : pick k with
    | none => rw [List.filterMap_cons_none h]; exact ih.cons k
    | some x => rw [List.filterMap_cons_some h, List.map_cons, hpick k x h]; exact ih.cons_cons k

/-- Looked up by a key, the picked records give what was picked for it, its absence too. -/
theorem find?_picked [DecidableEq κ] (hpick : ∀ k x, pick k = some x → key x = k) (ks : List κ) (k : κ) :
    (ks.filterMap pick).find? (fun x => decide (key x = k)) = if k ∈ ks then pick k else none := by
  induction ks with
  | nil => rfl
  | cons j js ih =>
    by_cases hj : k = j
    · subst hj
      rw [if_pos (List.mem_cons_self ..)]
      cases h : pick k with
      | none =>
        rw [List.filterMap_cons_none h, ih, h, ite_self]
      | some x =>
        rw [List.filterMap_cons_some h]
        exact List.find?_cons_of_pos (decide_eq_true (hpick k x h))
    · simp only [List.mem_cons, hj, false_or]
      cases h : pick j with
      | none => rw [List.filterMap_cons_none h, ih]
      | some x =>
        rw [List.filterMap_cons_some h, List.find?_cons_of_neg (by simpa [hpick j x h] using Ne.symm hj), ih]

end Keyed

theorem pickReading_mem {versions : List Reading} {last : Reading} (hlast : last ∈ versions) (free slot item : Nat) :
    pickReading free slot item versions last ∈ versions := by
  have hpos : 0 < versions.length := List.length_pos_of_mem hlast
  rw [pickReading, List.getD_eq_getElem _ _ (Nat.mod_lt _ hpos)]
  exact List.getElem_mem _

/-- Everything read stands in one of some versions: each own point, each entry and each peer record as one of them has it, or
its absence there, and the node state (R67). -/
structure Reading.Mixes (reading : Reading) (versions : List Reading) : Prop where
  own : ∀ o ∈ reading.own, ∃ v ∈ versions, o ∈ v.own
  entries : ∀ e ∈ reading.entries, ∃ v ∈ versions, e ∈ v.entries
  peer : ∀ i < 16, ∃ v ∈ versions, reading.peers.getD i PeerRecord.reset = v.peers.getD i PeerRecord.reset
  node : ∃ v ∈ versions, reading.node = v.node
  ownPoint : ∀ k : Nat, ∃ v ∈ versions,
    reading.own.find? (fun o => decide (o.number = k)) = v.own.find? (fun o => decide (o.number = k))
  entry : ∀ slot point : Nat, ∃ v ∈ versions,
    reading.entries.find? (isEntry slot point) = v.entries.find? (isEntry slot point)
  keys : (reading.entries.map PeerEntry.key).Nodup

/-- The keys of the entries that any version holds. -/
def Reading.allKeys (versions : List Reading) : List (Nat × Nat) :=
  (versions.flatMap (fun r => r.entries.map (fun e => (e.slot, e.point)))).eraseDups

theorem Reading.mem_allKeys {versions : List Reading} {v : Reading} (hv : v ∈ versions) {k : Nat × Nat}
    (hk : k ∈ v.entries.map PeerEntry.key) : k ∈ Reading.allKeys versions :=
  List.mem_eraseDups.2 (List.mem_flatMap.2 ⟨v, hv, hk⟩)

section EntriesFrom

variable {keys : List (Nat × Nat)} {version : Nat → Nat → Reading}

theorem find?_isEntry_key {slot point : Nat} {r : Reading} {e : PeerEntry}
    (h : r.entries.find? (isEntry slot point) = some e) : e.key = (slot, point) := by
  obtain ⟨hslot, hpoint⟩ := isEntry_iff.1 (List.find?_some h)
  exact Prod.ext hslot hpoint

theorem entriesFrom_keys_sublist : ((entriesFrom keys version).map PeerEntry.key).Sublist keys :=
  keys_picked_sublist (fun _ _ h => find?_isEntry_key h) keys

theorem entriesFrom_find? (slot point : Nat) : (entriesFrom keys version).find? (isEntry slot point) =
    if (slot, point) ∈ keys then (version slot point).entries.find? (isEntry slot point) else none := by
  have h := find?_picked (key := PeerEntry.key) (pick := fun k => (version k.1 k.2).entries.find? (isEntry k.1 k.2))
    (fun _ _ h => find?_isEntry_key h) keys (slot, point)
  simp only [PeerEntry.key, Prod.mk.injEq] at h
  exact h

/-- Entries all taken from one version are no more than that version holds. -/
theorem entriesFrom_length_le (hnodup : keys.Nodup) (v : Reading) :
    (entriesFrom keys (fun _ _ => v)).length ≤ v.entries.length := by
  have hentries : (entriesFrom keys (fun _ _ => v)).Nodup := (entriesFrom_keys_sublist.nodup hnodup).of_map
  exact (hentries.subperm fun e he => (entry_of_mem_entriesFrom he).2).length_le

end EntriesFrom

section Torn

variable {free : Nat} {versions : List Reading} {last : Reading}

theorem tornReading_own : (tornReading free versions last).own = (last.own.map (·.number)).filterMap (fun k =>
    (pickReading free 16 k versions last).own.find? (fun q => decide (q.number = k))) := by
  rw [List.filterMap_map]
  rfl

/-- The entries come from the versions picked for their keys, or all from one, and are no more than a table holds where no
version has more. -/
theorem tornReading_entries (hlast : last ∈ versions) : ∃ version : Nat → Nat → Reading,
    (∀ slot item, version slot item ∈ versions)
      ∧ (tornReading free versions last).entries = entriesFrom (Reading.allKeys (versions ++ [last])) version
      ∧ ((∀ v ∈ versions, v.entries.length ≤ 160) → (tornReading free versions last).entries.length ≤ 160) := by
  by_cases hmixed : (entriesFrom (Reading.allKeys (versions ++ [last]))
      (fun slot item => pickReading free slot item versions last)).length ≤ Config.peerEntries
  · have hentries : (tornReading free versions last).entries = _ := if_pos hmixed
    exact ⟨_, fun slot item => pickReading_mem hlast free slot item, hentries, fun _ => hentries ▸ hmixed⟩
  · have hentries : (tornReading free versions last).entries = _ := if_neg hmixed
    refine ⟨_, fun _ _ => pickReading_mem hlast free _ _, hentries, fun hroom => ?_⟩
    rw [hentries]
    exact (entriesFrom_length_le (nodup_eraseDups _) _).trans (hroom _ (pickReading_mem hlast free _ _))

theorem tornReading_own_numbers :
    ((tornReading free versions last).own.map (·.number)).Sublist (last.own.map (·.number)) := by
  rw [tornReading_own]
  exact keys_picked_sublist
    (fun k _ h => of_decide_eq_true (List.find?_some (p := fun q : OwnPoint => decide (q.number = k)) h)) _

theorem tornReading_own_length : (tornReading free versions last).own.length ≤ last.own.length := by
  simpa using (tornReading_own_numbers (free := free) (versions := versions) (last := last)).length_le

theorem tornReading_mixes (hlast : last ∈ versions) : (tornReading free versions last).Mixes versions := by
  obtain ⟨version, hversion, hentries, -⟩ := tornReading_entries (free := free) hlast
  have hpicked : ∀ (k : Nat) (o : OwnPoint), (pickReading free 16 k versions last).own.find?
      (fun q => decide (q.number = k)) = some o → o.number = k :=
    fun k _ h => of_decide_eq_true (List.find?_some (p := fun q : OwnPoint => decide (q.number = k)) h)
  constructor
  case own =>
    intro o ho
    rw [tornReading_own] at ho
    obtain ⟨k, -, hk⟩ := List.mem_filterMap.1 ho
    exact ⟨_, pickReading_mem hlast free 16 k, List.mem_of_find?_eq_some hk⟩
  case entries =>
    intro e he
    rw [hentries] at he
    exact ⟨_, hversion _ _, (entry_of_mem_entriesFrom he).2⟩
  case peer =>
    intro i hi
    refine ⟨_, pickReading_mem hlast free i 24, ?_⟩
    simp [tornReading, Config.linkSlots, Config.ownPoints, List.getD_eq_getElem?_getD, hi]
  case node => exact ⟨_, pickReading_mem hlast free 16 24, rfl⟩
  case ownPoint =>
    intro k
    rw [tornReading_own, find?_picked hpicked]
    by_cases hk : k ∈ last.own.map (·.number)
    · exact ⟨_, pickReading_mem hlast free 16 k, if_pos hk⟩
    · refine ⟨last, hlast, (if_neg hk).trans (Eq.symm ?_)⟩
      simpa using hk
  case entry =>
    intro slot point
    rw [hentries, entriesFrom_find?]
    by_cases hk : (slot, point) ∈ Reading.allKeys (versions ++ [last])
    · exact ⟨_, hversion _ _, if_pos hk⟩
    · refine ⟨last, hlast, (if_neg hk).trans (Eq.symm (List.find?_eq_none.2 fun e he hkey => hk ?_))⟩
      obtain ⟨rfl, rfl⟩ := isEntry_iff.1 hkey
      exact Reading.mem_allKeys (List.mem_append_left _ hlast) (List.mem_map_of_mem he)
  case keys => exact hentries ▸ entriesFrom_keys_sublist.nodup (nodup_eraseDups _)

end Torn

/-! ### Taking and completing a computation (R66, R67, R70) -/

theorem State.balanceTake_of_due {s : State} {p : Nat} {rest : List Nat} (hidle : s.balance.computing = none)
    (hqueue : s.balance.queue = p :: rest) : s.balanceTake = { s with balance :=
      { s.balance.setStatus p .computing with queue := rest, computing := some p, seen := [s.reading] } } := by
  simp only [State.balanceTake, hidle, hqueue]

section Completion

variable {s : State} {p : Nat} {sh : Sheet} {d : ParcelDef} {r : ParcelRecord}

theorem State.balanceComplete_of_computing (hcomputing : s.balance.computing = some p) (hsheet : s.sheet.sheet = some sh)
    (hdef : s.parcelDef? p = some d) (hrecord : s.balance.records.find? (fun q => decide (q.parcel = p)) = some r)
    (hstatus : r.status = .computing) : s.balanceComplete =
      ({ s with balance := { s.balance.modify p (fun q =>
          { q with result := compute sh d s.reading, settled := true, status := .idle, count := q.count + 1,
                   lastNotified := notifiedAfter q.lastNotified (compute sh d s.reading).verdict }) with
        computing := none, seen := [] } } : State).raiseEdge p r.lastNotified (compute sh d s.reading).verdict := by
  simp only [State.balanceComplete, hcomputing, hsheet, hdef, hrecord, hstatus]

theorem State.balanceComplete_of_redo (hcomputing : s.balance.computing = some p) (hsheet : s.sheet.sheet = some sh)
    (hdef : s.parcelDef? p = some d) (hrecord : s.balance.records.find? (fun q => decide (q.parcel = p)) = some r)
    (hstatus : r.status = .computingRedo) : s.balanceComplete = { s with
      freeIx := s.freeIx + 1
      balance := { s.balance.modify p (fun q =>
          { q with result := compute sh d (tornReading s.freeIx (s.balance.seen ++ [s.reading]) s.reading),
                   settled := false, status := .queued, count := q.count + 1 }) with
        queue := s.balance.queue ++ [p], computing := none, seen := [] } } := by
  simp only [State.balanceComplete, hcomputing, hsheet, hdef, hrecord, hstatus]

end Completion

theorem Verdict.rank_eq (v : Verdict) : v.rank = if v = .outside then 2 else if v = .marginal then 1 else 0 := by
  cases v <;> rfl

/-- The verdict notice of a settled completion (R70). -/
theorem State.raiseEdge_eq (p : Nat) (old new : Verdict) (s : State) :
    s.raiseEdge p old new = { s with
      notices :=
        if new = .noBasis then s.notices
        else if old.rank < new.rank ∧ (s.notices.edge p = .worse ∨ s.notices.edge p = .both) then
          s.notices.raise .verdictWorse p
        else if new.rank < old.rank ∧ (s.notices.edge p = .better ∨ s.notices.edge p = .both) then
          s.notices.raise .verdictBetter p
        else s.notices } := by
  unfold State.raiseEdge edgeNotice
  by_cases hnew : new = .noBasis
  · simp only [if_pos hnew]
  · simp only [if_neg hnew]
    by_cases hrise : old.rank < new.rank
    · have hfall : ¬ new.rank < old.rank := Nat.lt_asymm hrise
      by_cases hedge : s.notices.edge p = .worse ∨ s.notices.edge p = .both
      · simp only [hrise, hedge, if_true, and_self]
        rfl
      · simp only [hrise, hfall, hedge, if_true, if_false, and_false, false_and]
    · by_cases hfall : new.rank < old.rank
      · by_cases hedge : s.notices.edge p = .better ∨ s.notices.edge p = .both
        · simp only [hrise, hfall, hedge, if_true, if_false, and_self, false_and]
          rfl
        · simp only [hrise, hfall, hedge, if_true, if_false, and_false, false_and]
      · simp only [hrise, hfall, if_false, false_and]

/-- Settles O32: the taking and the two completions from the engine's equations, the notice by `State.raiseEdge_eq`, and the
unsettled reading by `tornReading_mixes`. -/
theorem computationsAreTakenAndCompleted : Obligations.ComputationsAreTakenAndCompleted := by
  refine ⟨fun s p rest hidle hqueue => ?_, fun s p sh d r hcomputing hsheet hdef hrecord hstatus => ?_,
    fun s p sh d r hcomputing hsheet hdef hrecord hstatus => ?_⟩
  · exact congrArg Host.Outcome.next (State.balanceTake_of_due hidle hqueue)
  · intro result rank edge old new
    refine congrArg Host.Outcome.next ((State.balanceComplete_of_computing hcomputing hsheet
      ((State.parcelDef?_of_sheet hsheet p).trans hdef) hrecord hstatus).trans ?_)
    rw [State.raiseEdge_eq, Verdict.rank_eq, Verdict.rank_eq]
    rfl
  · intro last versions
    have hlast : last ∈ versions := List.mem_append_right _ (List.mem_singleton_self last)
    have hmixes := tornReading_mixes (free := s.freeIx) hlast
    obtain ⟨-, -, -, hroom⟩ := tornReading_entries (free := s.freeIx) hlast
    exact ⟨tornReading s.freeIx versions last, hmixes.own, hmixes.entries, fun i => hmixes.peer i i.isLt, hmixes.node,
      hmixes.ownPoint, hmixes.entry, fun hnodup => tornReading_own_numbers.nodup hnodup, hmixes.keys,
      tornReading_own_length.trans_eq (by rfl), hroom,
      congrArg Host.Outcome.next (State.balanceComplete_of_redo hcomputing hsheet
        ((State.parcelDef?_of_sheet hsheet p).trans hdef) hrecord hstatus)⟩

end Sys2Proof.Machine
end

section
/-! PROOFS. The roll: the part of a state that the invariants of the transmit queue and of the Balance Engine read, and the changes a
step can make to it (03 section 3.5; 06 section 6.4). -/

namespace Sys2Proof.Machine

/-! ### The roll: the part of a state that the transmit queue and the Balance Engine stand in -/

/-- The parcel and epoch of an attest record (R74). -/
def AttestRecord.key (r : AttestRecord) : Nat × Epoch := (r.parcel, r.epoch)

/-- What the invariants of the transmit queue and of the Balance Engine read of a state: the numbers of the own points, the
keys of the attest records, the long operation in flight, the subjects of the transmit jobs, and the engine. -/
structure Roll where
  points : List Nat
  attests : List (Nat × Epoch)
  busy : Option LongOp
  subjects : List Subject
  balance : BalanceEngine

def State.roll (s : State) : Roll :=
  { points := s.table.own.map (·.number), attests := s.attest.map AttestRecord.key, busy := s.port.busy
    subjects := s.pub.queue.map (·.subject), balance := s.balance }

/-- A state that keeps what the blocks hold and the long operation in flight keeps the roll. -/
theorem State.roll_of_blocks {s t : State} (hblocks : t.blocks = s.blocks) (hledger : t.ledger = s.ledger) :
    t.roll = s.roll := by
  simp only [State.blocks, Prod.mk.injEq] at hblocks
  obtain ⟨-, htable, hbalance, hattest, -, -, -, hpub, -⟩ := hblocks
  have hbusy : t.port.busy = s.port.busy := congrArg Ledger.busy hledger
  simp only [State.roll, htable, hbalance, hattest, hpub, hbusy]

/-! ### What the shared operations leave of the roll -/

@[simp] theorem State.raiseIf_roll (c : Bool) (k : NoticeKind) (j : Nat) (s : State) : (s.raiseIf c k j).roll = s.roll := by
  cases c <;> rfl

@[simp] theorem State.raiseWatch_roll (slot point : Nat) (s : State) : (s.raiseWatch slot point).roll = s.roll := rfl

@[simp] theorem State.answer_roll (code : ResultCode) (data : List Byte) (s : State) : (s.answer code data).roll = s.roll := rfl

@[simp] theorem State.complete_roll (code : ResultCode) (s : State) : (s.complete code).roll = { s.roll with busy := none } :=
  rfl

/-- A change of the attest records that keeps each record's parcel and epoch. -/
theorem map_attestKey {f : AttestRecord → AttestRecord} (hf : ∀ r, (f r).key = r.key) (rs : List AttestRecord) :
    (rs.map f).map AttestRecord.key = rs.map AttestRecord.key := by
  rw [List.map_map]
  exact List.map_congr_left fun r _ => hf r

@[simp] theorem markAttest_key (p : Nat) (e : Epoch) (rs : List AttestRecord) :
    (markAttest p e rs).map AttestRecord.key = rs.map AttestRecord.key :=
  map_attestKey (fun r => by split <;> rfl) rs

@[simp] theorem markRemoved_key (gone : List PeerEntry) (rs : List AttestRecord) :
    (markRemoved gone rs).map AttestRecord.key = rs.map AttestRecord.key :=
  map_attestKey (fun r => by split <;> rfl) rs

@[simp] theorem dropMember_key (slot : Nat) (rs : List AttestRecord) :
    (dropMember slot rs).map AttestRecord.key = rs.map AttestRecord.key := by
  unfold dropMember
  refine map_attestKey (fun r => ?_) rs
  rfl

theorem modifyAttest_key (p : Nat) (e : Epoch) {f : AttestRecord → AttestRecord} (hf : ∀ r, (f r).key = r.key)
    (rs : List AttestRecord) : (modifyAttest p e f rs).map AttestRecord.key = rs.map AttestRecord.key :=
  map_attestKey (fun r => by split <;> [exact hf r; rfl]) rs

theorem foldl_markAttest_key (p : Nat) (es : List Epoch) (rs : List AttestRecord) :
    (es.foldl (fun rs e => markAttest p e rs) rs).map AttestRecord.key = rs.map AttestRecord.key := by
  induction es generalizing rs with
  | nil => rfl
  | cons e es ih => rw [List.foldl_cons, ih, markAttest_key]

@[simp] theorem State.markEpochs_roll (p : Nat) (es : List Epoch) (s : State) : (s.markEpochs p es).roll = s.roll := by
  simp only [State.roll, State.markEpochs, foldl_markAttest_key]

/-- A change of the own points that keeps each point's number. -/
theorem map_pointNumber {f : OwnPoint → OwnPoint} (hf : ∀ o, (f o).number = o.number) (own : List OwnPoint) :
    (own.map f).map (·.number) = own.map (·.number) := by
  rw [List.map_map]
  exact List.map_congr_left fun o _ => hf o

theorem FigureTable.modifyPoint_numbers (t : FigureTable) (k : Nat) {f : OwnPoint → OwnPoint}
    (hf : ∀ o, (f o).number = o.number) : (t.modifyPoint k f).own.map (·.number) = t.own.map (·.number) :=
  map_pointNumber (fun o => by split <;> [exact hf o; rfl]) t.own

theorem FigureTable.protect_numbers (t : FigureTable) (level : Protection) (which : OwnPoint → Bool) :
    (t.protect level which).own.map (·.number) = t.own.map (·.number) := by
  rcases t.protect_cases level which with ⟨-, h⟩ | ⟨-, h⟩ <;> rw [h]
  exact map_pointNumber (fun o => by split <;> rfl) t.own

/-! ### What a step can do to the engine -/

/-- A reading that no table exceeds: at most 24 own points and 160 entries (R38, R49). -/
abbrev Reading.Fits (r : Reading) : Prop := r.own.length ≤ 24 ∧ r.entries.length ≤ 160

/-- A reading of the table after a change of `s`, within the capacities where the table of `s` is. -/
def State.Admits (s : State) (now : Reading) : Prop := TableInv s → s.table.own.length ≤ 24 → now.Fits

/-- Recompute requests, each given with a reading of a kind. -/
inductive BalanceEngine.Requested (P : Reading → Prop) (b : BalanceEngine) : BalanceEngine → Prop
  | refl : b.Requested P b
  | request {c : BalanceEngine} {now : Reading} (p : Nat) (h : b.Requested P c) (hnow : P now) :
      b.Requested P (c.request now p)

/-- What one command can do to the engine: recompute requests, RESTART's fresh records, and the taking and the completion of
a computation (R65, R66, R67, R73). -/
inductive State.Computes (s : State) : BalanceEngine → Prop
  | requested {b : BalanceEngine} (h : s.balance.Requested s.Admits b) : s.Computes b
  | restarted : s.Computes
      { records := s.balance.records.map (fun r => ParcelRecord.create .queued r.parcel), queue := s.sheetParcels
        computing := none, seen := [] }
  | taken {p : Nat} {rest : List Nat} (hidle : s.balance.computing = none) (hqueue : s.balance.queue = p :: rest) :
      s.Computes { s.balance.setStatus p .computing with queue := rest, computing := some p, seen := [s.reading] }
  | settled {p : Nat} {sh : Sheet} {d : ParcelDef} (hcomputing : s.balance.computing = some p)
      (hstatus : s.balance.status? p = some .computing) :
      s.Computes { s.balance.modify p (fun q =>
          { q with result := compute sh d s.reading, settled := true, status := .idle, count := q.count + 1,
                   lastNotified := notifiedAfter q.lastNotified (compute sh d s.reading).verdict }) with
        computing := none, seen := [] }
  | redone {p : Nat} {sh : Sheet} {d : ParcelDef} (hcomputing : s.balance.computing = some p)
      (hstatus : s.balance.status? p = some .computingRedo) :
      s.Computes { s.balance.modify p (fun q =>
          { q with result := compute sh d (tornReading s.freeIx (s.balance.seen ++ [s.reading]) s.reading),
                   settled := false, status := .queued, count := q.count + 1 }) with
        queue := s.balance.queue ++ [p], computing := none, seen := [] }

/-! ### What a step can do to the transmit queue -/

/-- The subjects that the records name: PRESENCE, the own points and the attest records (R124). -/
def Roll.named (R : Roll) : List Subject :=
  .presence :: (R.points.map .point ++ R.attests.map (fun k => .attest k.1 k.2))

/-- What one command can do to the subjects in the queue: jobs go or change places, a subject is given, or the queue is filled
afresh (R124, R125, R127, R130). -/
inductive Roll.Publishes (R : Roll) : List Subject → Prop
  | fewer {subjects : List Subject} (h : subjects.Subperm R.subjects) : R.Publishes subjects
  | given {sub : Subject} (hsub : sub ∈ R.named ∨ ∃ p e, sub = .attest p e ∧ R.busy = some (.attest p e)) :
      R.Publishes (R.subjects ++ if sub ∈ R.subjects then [] else [sub])
  | renewed {subjects : List Subject} (h : subjects.Sublist R.named) : R.Publishes subjects

/-- One command's, or one bit time's, change to the roll. A power-on reset is apart. -/
inductive State.RollStep (s : State) : Roll → Prop
  | moved {busy : Option LongOp} {subjects : List Subject} {balance : BalanceEngine}
      (hbusy : ∀ op ∈ busy, s.port.busy = some op ∨ op.subjectOk = true) (hsubjects : s.roll.Publishes subjects)
      (hbalance : s.Computes balance) :
      s.RollStep { s.roll with busy := busy, subjects := subjects, balance := balance }
  | started {sh : Sheet} (hstate : s.sheet.node = .loaded) (hsheet : s.sheet.sheet = some sh) :
      s.RollStep
        { points := sh.ownRecords.map (·.number)
          attests := sh.parcels.flatMap (fun p => [(p.number, .opening), (p.number, .closing)])
          busy := s.port.busy, subjects := (s.pub.give .presence).queue.map (·.subject)
          balance := { s.balance with records := sh.parcels.map (fun p => ParcelRecord.create .idle p.number) } }

theorem State.Computes.refl (s : State) : s.Computes s.balance := .requested .refl

theorem Roll.Publishes.refl (R : Roll) : R.Publishes R.subjects := .fewer (.refl _)

theorem State.RollStep.same (s : State) : s.RollStep s.roll := .moved (fun _ h => .inl h) (.refl _) (.refl s)

theorem State.RollStep.of_eq {s t : State} (h : t.roll = s.roll) : s.RollStep t.roll := h ▸ .same s

/-- A change that keeps the numbers of the points and the keys of the attest records, by what it does to the rest. -/
theorem State.RollStep.of_moved {s : State} {R : Roll} (hpoints : R.points = s.roll.points)
    (hattests : R.attests = s.roll.attests) (hbusy : ∀ op ∈ R.busy, s.port.busy = some op ∨ op.subjectOk = true)
    (hsubjects : s.roll.Publishes R.subjects) (hbalance : s.Computes R.balance) : s.RollStep R := by
  have hroll : R = ⟨s.roll.points, s.roll.attests, R.busy, R.subjects, R.balance⟩ := by
    rw [← hpoints, ← hattests]
  rw [hroll]
  exact .moved hbusy hsubjects hbalance

/-- A new selection changes nothing that the roll's changes rest on. -/
theorem State.Computes.of_newSelection {s : State} {b : BalanceEngine} (h : s.newSelection.Computes b) : s.Computes b := by
  cases h with
  | requested h => exact .requested h
  | restarted => exact .restarted
  | taken hidle hqueue => exact .taken hidle hqueue
  | settled hcomputing hstatus => exact .settled hcomputing hstatus
  | redone hcomputing hstatus => exact .redone hcomputing hstatus

theorem State.RollStep.of_newSelection {s : State} {R : Roll} (h : s.newSelection.RollStep R) : s.RollStep R := by
  cases h with
  | moved hbusy hsubjects hbalance => exact .moved hbusy hsubjects hbalance.of_newSelection
  | started hstate hsheet => exact .started hstate hsheet

/-- A request is ignored, refused with BUSY, or taken at an idle port. -/
theorem State.takeRequest_rollStep {body : State → State}
    (h : ∀ s : State, s.port.busy = none → s.RollStep (body s).roll) (s : State) :
    s.RollStep (s.takeRequest body).roll := by
  unfold State.takeRequest State.serveRequest
  split
  · exact .same s
  · dsimp only
    split
    · exact .same s
    · next hbusy => exact (h s.newSelection (by simpa using hbusy)).of_newSelection

theorem State.serveRequest_roll {body : State → State} (h : ∀ s : State, (body s).roll = s.roll) (s : State) :
    (s.serveRequest body).roll = s.roll := by
  unfold State.serveRequest
  split
  · rfl
  · exact h s.newSelection

theorem State.serveRequest_answer_roll (code : ResultCode) (data : State → List Byte) (s : State) :
    (s.serveRequest (fun t => t.answer code (data t))).roll = s.roll :=
  State.serveRequest_roll (fun t => t.answer_roll code (data t)) s

theorem State.takeRequest_roll {body : State → State} (h : ∀ s : State, (body s).roll = s.roll) (s : State) :
    (s.takeRequest body).roll = s.roll := by
  refine State.serveRequest_roll (fun t => ?_) s
  split
  · rfl
  · exact h t

/-! ### Changes that only give recompute requests -/

/-- From `s` on, a state has only given recompute requests: of the roll the engine alone has changed, each request was given
with a reading that fits, and the table still fits. -/
structure State.Requests (s t : State) : Prop where
  roll : t.roll = { s.roll with balance := t.balance }
  admitted : s.Admits t.reading
  requested : s.balance.Requested s.Admits t.balance

theorem State.own_length_of_roll {s t : State} (h : t.roll.points = s.roll.points) :
    t.table.own.length = s.table.own.length := by
  simpa [State.roll] using congrArg List.length h

theorem State.Requests.refl (s : State) : s.Requests s := by
  refine ⟨rfl, fun htable hown => ⟨hown, ?_⟩, .refl⟩
  obtain ⟨-, -, hlength, -⟩ := htable
  exact hlength

theorem BalanceEngine.Requested.foldl {P : Reading → Prop} {b : BalanceEngine} {now : Reading} (hnow : P now)
    (ps : List Nat) {c : BalanceEngine} (h : b.Requested P c) :
    b.Requested P (ps.foldl (BalanceEngine.request now) c) := by
  induction ps generalizing c with
  | nil => exact h
  | cons p ps ih => exact ih (h.request p hnow)

namespace State.Requests

variable {s t u : State}

/-- A change outside the roll that makes the table no longer. -/
theorem of_roll (h : s.Requests t) (hroll : u.roll = t.roll) (hentries : u.table.entries.length ≤ t.table.entries.length) :
    s.Requests u := by
  obtain ⟨htroll, hadmitted, hrequested⟩ := h
  have hbalance : u.balance = t.balance := congrArg Roll.balance hroll
  have hown : u.table.own.length = t.table.own.length := State.own_length_of_roll (congrArg Roll.points hroll)
  refine ⟨hroll.trans (htroll.trans (by rw [hbalance])), fun htable hlength => ?_, hbalance ▸ hrequested⟩
  obtain ⟨hpoints, hroom⟩ := hadmitted htable hlength
  exact ⟨hown.le.trans hpoints, hentries.trans hroom⟩

theorem requestAll (h : s.Requests t) (ps : List Nat) : s.Requests (t.requestAll ps) := by
  obtain ⟨hroll, hadmitted, hrequested⟩ := h
  refine ⟨?_, hadmitted, hrequested.foldl hadmitted ps⟩
  have : (t.requestAll ps).roll = { t.roll with balance := (t.requestAll ps).balance } := rfl
  rw [this, hroll]

theorem rollStep (h : s.Requests t) : s.RollStep t.roll := by
  obtain ⟨hroll, -, hrequested⟩ := h
  refine .of_moved (by rw [hroll]) (by rw [hroll]) (fun op hop => .inl ?_) ?_ (.requested hrequested)
  · rw [hroll] at hop
    exact hop
  · rw [hroll]
    exact .refl s.roll

theorem raise (h : s.Requests t) (k : NoticeKind) (j : Nat) : s.Requests (t.raise k j) := h.of_roll rfl le_rfl

theorem raiseIf (h : s.Requests t) (c : Bool) (k : NoticeKind) (j : Nat) : s.Requests (t.raiseIf c k j) :=
  h.of_roll (t.raiseIf_roll c k j) (by rw [State.raiseIf_table])

theorem raiseWatch (h : s.Requests t) (slot point : Nat) : s.Requests (t.raiseWatch slot point) := h.of_roll rfl le_rfl

theorem markEpochs (h : s.Requests t) (p : Nat) (es : List Epoch) : s.Requests (t.markEpochs p es) :=
  h.of_roll (t.markEpochs_roll p es) le_rfl

theorem count (h : s.Requests t) (f : IntakeCounters → IntakeCounters) : s.Requests (t.count f) := h.of_roll rfl le_rfl

theorem writePeer (h : s.Requests t) (slot : Nat) (changed : Bool) (r : PeerRecord) :
    s.Requests (t.writePeer slot changed r) := by
  have hwritten : s.Requests { t with peers := t.peers.set slot r } := h.of_roll rfl le_rfl
  unfold State.writePeer
  dsimp only
  split
  · exact hwritten.requestAll _
  · exact hwritten

theorem updatePeer (h : s.Requests t) (slot : Nat) (f : PeerRecord → PeerRecord) : s.Requests (t.updatePeer slot f) :=
  h.writePeer ..

theorem removeEntries (h : s.Requests t) (gone : List PeerEntry) : s.Requests (t.removeEntries gone) := by
  unfold State.removeEntries
  split
  · exact h
  · extract_lets table shorter removed requested
    have hremoved : s.Requests removed :=
      h.of_roll (by simp [State.roll, removed, shorter, table, FigureTable.changed]) (List.length_filter_le ..)
    exact (hremoved.requestAll _).of_roll rfl le_rfl

theorem dropStation (h : s.Requests t) (slot : Nat) : s.Requests (t.dropStation slot) :=
  State.Requests.of_roll (t := t.removeStation slot) (h.removeEntries _) (by simp [State.roll, State.dropStation]) le_rfl

/-! #### A frame's way through the Frame Intake (R111 to R122) -/

theorem mismatched (h : s.Requests t) (slot : Nat) (p : PresenceBody) : s.Requests (t.mismatched slot p) := by
  unfold State.mismatched
  dsimp only
  split
  · exact (h.count _).updatePeer ..
  · exact (((h.count _).dropStation slot).updatePeer ..).raise ..

theorem acceptFrame (h : s.Requests t) (f : Frame) (b : Body) (j : Judgement) : s.Requests (t.acceptFrame f b j) := by
  unfold State.acceptFrame
  dsimp only
  refine State.Requests.writePeer ?_ ..
  split
  · exact ((h.count _).raiseIf ..).dropStation _
  · exact (h.count _).raiseIf ..

theorem discardFrame (h : s.Requests t) (slot : Nat) : s.Requests (t.discardFrame slot) := by
  unfold State.discardFrame
  split <;> exact h.count _

theorem judge (h : s.Requests t) (f : Frame) (b : Body) : s.Requests (t.judge f b).1 := by
  unfold State.judge
  dsimp only
  split
  · exact h.mismatched ..
  · exact h.discardFrame _
  · exact h.acceptFrame ..

theorem applyConflicts (h : s.Requests t) (e : PeerEntry) (items : List StuItem) : s.Requests (t.applyConflicts e items) :=
  h.of_roll rfl (by simp [State.applyConflicts, State.count])

theorem startMerge (h : s.Requests t) (slot point : Nat) (kind : PointKind) (parcel factor : Nat) (items : List StuItem) :
    s.Requests (t.startMerge slot point kind parcel factor items) := by
  unfold State.startMerge
  split
  · exact h
  · exact h.of_roll rfl le_rfl

theorem figureFrame (h : s.Requests t) (slot point : Nat) (kind : PointKind) (parcel factor : Nat) (items : List StuItem) :
    s.Requests (t.figureFrame slot point kind parcel factor items) := by
  unfold State.figureFrame
  split
  · split
    · exact h.count _
    · split
      · exact (h.count _).raise ..
      · exact h.startMerge ..
  · split
    · exact h.count _
    · exact ((h.count _).applyConflicts ..).startMerge ..

theorem withdrawFrame (h : s.Requests t) (slot point : Nat) (kind : PointKind) (parcel : Nat) :
    s.Requests (t.withdrawFrame slot point kind parcel) := by
  unfold State.withdrawFrame
  split
  · exact h
  · split
    · exact h.removeEntries _
    · exact h.count _

theorem route (h : s.Requests t) (slot : Nat) (b : Body) : s.Requests (t.route slot b) := by
  cases b with
  | presence p => exact h
  | figure point kindCode parcel factor blocks =>
    simp only [State.route]
    split
    · split
      · exact h.figureFrame ..
      · exact h.count _
    · exact h.count _
  | withdraw point kindCode parcel =>
    simp only [State.route]
    split
    · exact h.withdrawFrame ..
    · exact h.count _
  | attest parcel epoch theirs =>
    simp only [State.route]
    split
    · exact h.of_roll rfl le_rfl
    · exact h.count _

theorem handleFrame (h : s.Requests t) (f : Frame) : s.Requests (t.handleFrame f) := by
  unfold State.handleFrame
  extract_lets slot
  split
  · exact h.count _
  · split
    · exact h.count _
    · next b _ =>
      have hjudge := h.judge f b
      split
      · next t' heq =>
        rw [heq] at hjudge
        exact hjudge.route slot b
      · next t' heq =>
        rw [heq] at hjudge
        exact hjudge

end State.Requests

theorem State.takeFrame_requests (s : State) : s.Requests s.takeFrame := by
  unfold State.takeFrame
  split
  · exact .refl s
  · next f rest _ =>
    split
    · have hdequeued : s.Requests { s with intake := { s.intake with queue := rest } } :=
        (State.Requests.refl s).of_roll rfl le_rfl
      exact hdequeued.handleFrame f
    · exact .refl s

theorem State.silenceExpired_requests (slot : Nat) (s : State) : s.Requests (s.silenceExpired slot) := by
  unfold State.silenceExpired
  dsimp only
  split
  · exact ((State.Requests.refl s).writePeer ..).raise ..
  · exact .refl s

theorem State.Requests.peersUnheard {s t : State} (h : s.Requests t) : s.Requests t.peersUnheard := by
  have hunheard : s.Requests { t with peers := t.peers.map PeerRecord.unheard } := h.of_roll rfl le_rfl
  unfold State.peersUnheard
  dsimp only
  split
  · exact hunheard.requestAll _
  · exact hunheard

/-- A merge had room for the entry it puts into the table (R38, R41). -/
theorem State.merged_fits {s : State} {slot point parcel factor : Nat} {kind : PointKind} {results : Option (List StuResult)}
    {entry : PeerEntry} (hmerging : s.intake.merging = some (.figure slot point kind parcel factor results))
    (hkey : entry.key = (slot, point)) (htable : TableInv s) : (insertEntry entry s.table.entries).length ≤ 160 := by
  rw [tableInv_iff] at htable
  obtain ⟨hsorted, -, hlength, hroom⟩ := htable
  obtain ⟨-, -, hfree⟩ := hroom (.figure slot point kind parcel factor none)
    (by simp [State.ledger, hmerging, Merge.withoutResults])
  rw [insertEntry_length hsorted, hkey]
  have hcount : s.ledger.keys.length = s.table.entries.length := List.length_map ..
  split
  · exact hcount ▸ hlength
  · next hnot => exact hcount ▸ hfree hnot

theorem State.frameMerge_requests (s : State) : s.Requests s.frameMerge := by
  unfold State.frameMerge
  split
  · next slot point kind parcel factor results hmerging hholder =>
    extract_lets old entry table intake merged requested differs flagged
    have hkey : entry.key = (slot, point) := by
      unfold entry old
      cases hentry : s.table.entry? slot point with
      | none => rfl
      | some e =>
        obtain ⟨-, hslot, hpoint⟩ := entry?_key hentry
        exact Prod.ext hslot hpoint
    have hmerged : s.Requests merged :=
      ⟨rfl, fun htable hown => ⟨hown, State.merged_fits hmerging hkey htable⟩, .refl⟩
    have hflagged : s.Requests flagged := by
      unfold flagged
      split
      · exact (hmerged.requestAll _).updatePeer ..
      · exact hmerged.requestAll _
    exact (((hflagged.raiseIf ..).raiseIf ..).raiseWatch ..).markEpochs ..
  · exact .refl s

end Sys2Proof.Machine
end

section
/-! PROOFS. What each command does to the roll, command by command, and with that every step. -/

namespace Sys2Proof.Machine

/-! ### The subjects in the transmit queue (R124 to R130) -/

theorem Publisher.hasJob_iff_mem (p : Publisher) (sub : Subject) :
    p.hasJob sub = true ↔ sub ∈ p.queue.map (·.subject) := by
  rw [p.hasJob_iff, List.mem_map]

/-- A subject that the records name, or the one of the ATTEST in flight, is given. -/
theorem Roll.Publishes.give {s : State} {p : Publisher} {sub : Subject}
    (hsub : sub ∈ s.roll.named ∨ ∃ p e, sub = .attest p e ∧ s.port.busy = some (.attest p e))
    (hp : p.queue.map (·.subject) = s.roll.subjects) : s.roll.Publishes ((p.give sub).queue.map (·.subject)) := by
  rw [Publisher.give_subjects]
  simp only [Publisher.hasJob_iff_mem, hp]
  exact .given hsub

theorem Roll.Publishes.giveByTimer {s : State} {p : Publisher} {sub : Subject} (hsub : sub ∈ s.roll.named)
    (hp : p.queue.map (·.subject) = s.roll.subjects) : s.roll.Publishes ((p.giveByTimer sub).queue.map (·.subject)) := by
  rw [Publisher.giveByTimer_subjects]
  simp only [Publisher.hasJob_iff_mem, hp]
  exact .given (.inl hsub)

theorem Roll.presence_mem_named (R : Roll) : .presence ∈ R.named := List.mem_cons_self ..

theorem Roll.point_mem_named {s : State} {k : Nat} {o : OwnPoint} (h : s.table.point? k = some o) :
    .point k ∈ s.roll.named := by
  have hk : o.number = k := of_decide_eq_true (List.find?_some (p := fun q : OwnPoint => decide (q.number = k)) h)
  have hmem : k ∈ s.roll.points := hk ▸ List.mem_map_of_mem (List.mem_of_find?_eq_some h)
  exact List.mem_cons_of_mem _ (List.mem_append_left _ (List.mem_map_of_mem hmem))

/-- A completed send takes the job in flight from the queue, or moves it to the tail (R127). -/
theorem Publisher.completed_subjects (p : Publisher) :
    (p.completed.queue.map (·.subject)).Subperm (p.queue.map (·.subject)) := by
  unfold Publisher.completed
  split
  · exact .refl _
  · next j hj =>
    have hinFlight : [j].Sublist (p.queue.filter (·.inFlight)) :=
      List.singleton_sublist.2 (List.mem_filter.2 ⟨List.mem_of_find?_eq_some hj, List.find?_some hj⟩)
    have hresent : (if j.resend then [newJob j.subject] else []).map (·.subject) = if j.resend then [j.subject] else [] := by
      split <;> rfl
    have hkept : ((p.queue.filter (fun k => !k.inFlight) ++ p.queue.filter (·.inFlight)).map (·.subject)).Perm
        (p.queue.map (·.subject)) :=
      (List.perm_append_comm.trans (List.filter_append_perm (·.inFlight) p.queue)).map _
    refine List.Subperm.trans (List.Sublist.subperm ?_) hkept.subperm
    rw [List.map_append, List.map_append, hresent]
    refine (List.Sublist.refl _).append ?_
    split
    · exact hinFlight.map (·.subject)
    · exact List.nil_sublist _

theorem Publisher.startHead_subjects (p : Publisher) : p.startHead.queue.map (·.subject) = p.queue.map (·.subject) := by
  unfold Publisher.startHead
  split
  · next heq => rw [heq]; rfl
  · rfl

theorem Publisher.dropHead_subjects (p : Publisher) :
    (p.dropHead.queue.map (·.subject)).Subperm (p.queue.map (·.subject)) :=
  ((List.tail_sublist p.queue).map _).subperm

/-- What is eligible is named by a record (R129). -/
theorem State.eligible_sublist (s : State) :
    s.eligible.Sublist (s.roll.points.map .point ++ s.roll.attests.map (fun k => .attest k.1 k.2)) := by
  simp only [State.eligible, State.roll, List.map_map]
  exact (List.filter_sublist.map _).append (List.filter_sublist.map _)

theorem State.refilled_subjects (s : State) : (s.refilled.map (·.subject)).Sublist s.roll.named := by
  have hsubjects : s.refilled.map (·.subject) = .presence :: s.eligible := by
    simp [State.refilled, newJob, Function.comp_def]
  rw [hsubjects]
  exact s.eligible_sublist.cons_cons _

theorem nextInRotation_mem {position : Option Subject} {eligible : List Subject} {sub : Subject}
    (h : nextInRotation position eligible = some sub) : sub ∈ eligible := by
  unfold nextInRotation at h
  split at h
  · exact List.mem_of_mem_head? h
  · rcases Option.or_eq_some_iff.1 h with hfind | ⟨-, hhead⟩
    · exact List.mem_of_find?_eq_some hfind
    · exact List.mem_of_mem_head? hhead

/-! ### Each command's change to the roll -/

theorem State.RollStep.accept {s : State} {op : LongOp} (hop : op.subjectOk = true) : s.RollStep (s.accept op).roll :=
  .of_moved rfl rfl (by rintro _ ⟨⟩; exact .inr hop) (.refl _) (.refl s)

theorem State.RollStep.completed (s : State) : s.RollStep { s.roll with busy := none } :=
  .moved (by simp) (.refl _) (.refl s)

/-- The Publisher alone changes. -/
theorem State.RollStep.published {s : State} {subjects : List Subject} (h : s.roll.Publishes subjects) :
    s.RollStep { s.roll with subjects := subjects } :=
  .moved (fun _ h => .inl h) h (.refl s)

/-- A long operation ends with its subject given and recompute requests. -/
theorem State.RollStep.ended {s t : State} {sub : Subject} (h : s.Requests t)
    (hsub : sub ∈ s.roll.named ∨ ∃ p e, sub = .attest p e ∧ s.port.busy = some (.attest p e)) (ps : List Nat) :
    s.RollStep { ((t.give sub).requestAll ps).roll with busy := none } := by
  obtain ⟨-, -, hrequested⟩ := h.requestAll ps
  have hpoints : t.roll.points = s.roll.points := by rw [h.roll]
  have hattests : t.roll.attests = s.roll.attests := by rw [h.roll]
  exact .of_moved hpoints hattests (by simp)
    (.give hsub (p := t.pub) (congrArg Roll.subjects h.roll)) (.requested hrequested)

/-! #### Requests -/

theorem State.sheetBegin_roll (h : Option Header) (s : State) : (s.sheetBegin h).roll = s.roll := by
  unfold State.sheetBegin
  split
  · rfl
  · split <;> rfl

theorem State.define_roll (change : Option (Sheet → Sheet)) (s : State) : (s.define change).roll = s.roll := by
  unfold State.define
  split
  · rfl
  · split <;> rfl

theorem State.sheetEnd_rollStep (s : State) : s.RollStep s.sheetEnd.roll := by
  unfold State.sheetEnd
  split
  · exact .same s
  · exact .accept rfl

theorem State.sheetEndComplete_rollStep (s : State) : s.RollStep s.sheetEndComplete.roll := by
  unfold State.sheetEndComplete
  split
  · dsimp only
    split <;> exact .completed s
  · exact .same s

theorem State.start_rollStep (s : State) : s.RollStep s.start.roll := by
  unfold State.start
  split
  · next sh hstate hsheet =>
    have := State.RollStep.started hstate hsheet
    simpa [State.roll, List.map_flatMap, AttestRecord.key, AttestRecord.create] using this
  · exact .same s

theorem State.post_rollStep (point epoch : Nat) (raw : RawFigures) (s : State) : s.RollStep (s.post point epoch raw).roll := by
  unfold State.post
  split
  · exact .same s
  · exact .accept (op := .post point) rfl

theorem State.setPermit_roll (value : Bool) (s : State) : (s.setPermit value).roll = s.roll := by
  unfold State.setPermit
  split <;> rfl

theorem State.withdraw_rollStep (point : Nat) (s : State) : s.RollStep (s.withdraw point).roll := by
  unfold State.withdraw
  split
  · exact .same s
  · exact .accept rfl

theorem State.finalise_rollStep (s : State) : s.RollStep s.finalise.roll := by
  unfold State.finalise
  split
  · exact .same s
  · split
    · exact .same s
    · split
      · exact .same s
      · exact .accept rfl

theorem Epoch.ofAttestCode_mem {code : Nat} {e : Epoch} (h : Epoch.ofAttestCode code = some e) : e ∈ attestedEpochs := by
  unfold Epoch.ofAttestCode at h
  split at h <;> simp_all [attestedEpochs]

theorem mem_parcelNumbers_iff (p : Nat) : p ∈ parcelNumbers ↔ 1 ≤ p ∧ p ≤ 8 := by
  simp only [parcelNumbers, List.mem_cons, List.not_mem_nil, or_false]
  omega

theorem State.attestRequest_rollStep (parcel epoch : Nat) (s : State) : s.RollStep (s.attestRequest parcel epoch).roll := by
  unfold State.attestRequest
  split
  · exact .same s
  · split
    · exact .same s
    · exact .same s
    · next e hepoch hparcel =>
      split
      · exact .same s
      · split
        · exact .same s
        · have hparcel' := (mem_parcelNumbers_iff parcel).2 ((parcelInRange_iff parcel).1 hparcel)
          exact .accept (op := .attest parcel e) (decide_eq_true ⟨hparcel', Epoch.ofAttestCode_mem hepoch⟩)

theorem State.restart_rollStep (s : State) : s.RollStep s.restart.roll := by
  unfold State.restart
  split
  · exact .accept rfl
  · exact .same s

theorem BalanceEngine.Requested.imp {P Q : Reading → Prop} (hPQ : ∀ r, P r → Q r) {b c : BalanceEngine}
    (h : b.Requested P c) : b.Requested Q c := by
  induction h with
  | refl => exact .refl
  | request p _ hnow ih => exact ih.request p (hPQ _ hnow)

/-- A state with the same table and no merge admits no reading that was not admitted before. -/
theorem State.Admits.of_no_merge {s t : State} {now : Reading} (hown : t.table.own = s.table.own)
    (hentries : t.table.entries = s.table.entries) (hmerging : t.intake.merging = none) (h : t.Admits now) : s.Admits now := by
  rintro ⟨hsorted, hrange, hlength, -⟩ hcount
  refine h ⟨?_, ?_, ?_, by simp [hmerging]⟩ (by rwa [hown])
  · rwa [hentries]
  · rwa [hentries]
  · rwa [hentries]

theorem State.linkReset_rollStep (s : State) : s.RollStep s.linkReset.roll := by
  unfold State.linkReset
  split
  · unfold State.linkResetStep
    extract_lets sent cleared fresh unheard
    have hfresh : fresh.roll.points = s.roll.points ∧ fresh.roll.attests = s.roll.attests
        ∧ fresh.balance = s.balance ∧ fresh.table.own = s.table.own ∧ fresh.table.entries = s.table.entries := by
      unfold fresh cleared sent
      split <;> exact ⟨rfl, rfl, rfl, rfl, rfl⟩
    obtain ⟨hpoints, hattests, hbalance, hown, hentries⟩ := hfresh
    have hunheard : fresh.Requests unheard := (State.Requests.refl fresh).peersUnheard
    obtain ⟨hroll, -, hrequested⟩ := hunheard
    have hnamed : unheard.roll.named = s.roll.named := by
      rw [hroll, Roll.named, hpoints, hattests]
      rfl
    refine .of_moved ?_ ?_ (by rintro _ ⟨⟩) (.renewed (hnamed ▸ unheard.refilled_subjects)) (.requested ?_)
    · exact (congrArg Roll.points hroll).trans hpoints
    · exact (congrArg Roll.attests hroll).trans hattests
    · rw [← hbalance]
      exact hrequested.imp fun _ => .of_no_merge hown hentries rfl
  · exact .same s

theorem State.acknowledge_roll (kind subject : Nat) (s : State) : (s.acknowledge kind subject).roll = s.roll := by
  unfold State.acknowledge
  split
  · rfl
  · split
    · rfl
    · split <;> rfl

theorem State.readPoint_roll (k : Nat) (s : State) : (s.readPoint k).roll = s.roll := by
  unfold State.readPoint
  split
  · rfl
  · split
    · rfl
    · split <;> rfl

theorem State.readEntry_roll (form first second : Nat) (s : State) : (s.readEntry form first second).roll = s.roll := by
  unfold State.readEntry
  split
  · rfl
  · extract_lets found
    have hfound (o : Option (List Byte)) : (found o).roll = s.roll := by cases o <;> rfl
    split
    · split
      · exact hfound _
      · rfl
    · exact hfound _
    · rfl

theorem State.readParcel_roll (p : Nat) (s : State) : (s.readParcel p).roll = s.roll := by
  unfold State.readParcel
  split
  · rfl
  · split
    · rfl
    · split <;> rfl

theorem State.readAttest_roll (p epoch : Nat) (s : State) : (s.readAttest p epoch).roll = s.roll := by
  unfold State.readAttest
  split
  · rfl
  · split
    · rfl
    · rfl
    · split <;> rfl

theorem State.walk_roll (index : Nat) (s : State) : (s.walk index).roll = s.roll := by
  unfold State.walk
  split <;> rfl

/-! #### Events -/

theorem State.handResults_roll (r : Requester) (results : List StuResult) (s : State) :
    (s.handResults r results).roll = s.roll := by
  unfold State.handResults
  split
  · rfl
  · split <;> rfl

theorem State.stuComputed_roll (s : State) : s.stuComputed.roll = s.roll := by
  unfold State.stuComputed
  split
  · split
    · rfl
    · dsimp only
      split
      · exact State.handResults_roll ..
      · rfl
  · rfl

theorem State.postStore_rollStep (s : State) : s.RollStep s.postStore.roll := by
  unfold State.postStore
  split
  · next k r _ _ =>
    split
    · exact .same s
    · next o hpoint =>
      split
      · exact .same s
      · extract_lets e observation table kept stored requested limited marked
        have hstored : s.Requests stored := (State.Requests.refl s).of_roll (by
          simp [State.roll, stored, table, FigureTable.modifyPoint_numbers, FigureTable.changed]) le_rfl
        rw [State.complete_roll, State.markEpochs_roll, State.raiseWatch_roll, State.raiseIf_roll]
        exact .ended hstored (.inl (Roll.point_mem_named hpoint)) [o.parcel]
  · exact .same s

theorem State.withdrawalMade_rollStep (s : State) : s.RollStep s.withdrawalMade.roll := by
  unfold State.withdrawalMade
  split
  · next k _ =>
    split
    · exact .same s
    · next o hpoint =>
      split
      · exact .same s
      · extract_lets table withdrawn requested marked
        have hwithdrawn : s.Requests withdrawn := (State.Requests.refl s).of_roll (by
          simp [State.roll, withdrawn, table, FigureTable.modifyPoint_numbers, FigureTable.changed]) le_rfl
        rw [State.complete_roll, State.markEpochs_roll, State.raiseWatch_roll]
        exact .ended hwithdrawn (.inl (Roll.point_mem_named hpoint)) [o.parcel]
  · exact .same s

theorem State.finaliseMade_rollStep (s : State) : s.RollStep s.finaliseMade.roll := by
  unfold State.finaliseMade
  split
  · extract_lets sheet final
    have hfinal : s.Requests final := (State.Requests.refl s).of_roll
      (by simp [State.roll, final, FigureTable.protect_numbers])
      (by rw [(s.table.protect_entries .throughClosing fun _ => true).1])
    rw [State.complete_roll]
    exact .ended hfinal (.inl (Roll.presence_mem_named _)) _
  · exact .same s

theorem State.restartChange_rollStep (s : State) : s.RollStep s.restartChange.roll := by
  unfold State.restartChange
  split
  · refine .of_moved ?_ ?_ (by rintro _ ⟨⟩) (.renewed ((List.nil_sublist _).cons_cons _)) .restarted
    · exact map_pointNumber (f := OwnPoint.cleared) (fun _ => rfl) s.table.own
    · exact map_attestKey (f := fun r => AttestRecord.create r.parcel r.epoch) (fun _ => rfl) s.attest
  · exact .same s

theorem State.intakeHoldSet_roll (s : State) : s.intakeHoldSet.roll = s.roll := by
  unfold State.intakeHoldSet
  split <;> rfl

theorem State.attestScanComplete_rollStep (s : State) : s.RollStep s.attestScanComplete.roll := by
  unfold State.attestScanComplete
  split
  · next p e hbusy _ =>
    extract_lets sum table scanned
    have hattests : scanned.attest.map AttestRecord.key = s.attest.map AttestRecord.key := by
      refine modifyAttest_key p e (fun r => ?_) s.attest
      rfl
    have hscanned : s.Requests scanned := (State.Requests.refl s).of_roll
      (by
        rw [State.roll, hattests]
        simp [State.roll, scanned, table, FigureTable.protect_numbers])
      (by exact (congrArg List.length (s.table.protect_entries ..).1).le)
    rw [State.complete_roll]
    exact .ended hscanned (.inr ⟨p, e, rfl, hbusy⟩) []
  · exact .same s

theorem AttestRecord.compared_key (slot : Nat) (equal : Bool) (r : AttestRecord) : (r.compared slot equal).key = r.key := by
  cases equal <;> rfl

theorem State.comparisonComplete_roll (s : State) : s.comparisonComplete.roll = s.roll := by
  unfold State.comparisonComplete
  split
  · dsimp only
    rw [State.raiseIf_roll, State.roll, modifyAttest_key _ _ (AttestRecord.compared_key _ _)]
    rfl
  · rfl

theorem State.turnGap_rollStep (s : State) : s.RollStep s.turnGap.roll := by
  unfold State.turnGap
  split
  · dsimp only
    split
    · exact .same s
    · exact .same s
    · split
      · exact .published (.fewer s.pub.dropHead_subjects)
      · have := State.RollStep.same s
        rw [State.roll, ← Publisher.startHead_subjects] at this
        exact this
  · exact .same s

theorem State.sendComplete_rollStep (stopDominant : Bool) (s : State) : s.RollStep (s.sendComplete stopDominant).roll := by
  unfold State.sendComplete
  split
  · split
    · exact .published (.fewer s.pub.completed_subjects)
    · exact .same s
  · exact .same s

theorem State.clash_roll (s : State) : s.clash.roll = s.roll := by
  unfold State.clash
  split
  · split
    · rfl
    · simp [State.roll, Publisher.clashed_subjects]
  · rfl

theorem State.clashMarkEnd_roll (s : State) : s.clashMarkEnd.roll = s.roll := by
  unfold State.clashMarkEnd
  split
  · split <;> rfl
  · rfl

theorem State.failReception_roll (s : State) : s.failReception.roll = s.roll := by
  unfold State.failReception
  exact State.raiseIf_roll ..

theorem State.validFrame_roll (f : Frame) (s : State) : (s.validFrame f).roll = s.roll := by
  unfold State.validFrame
  dsimp only
  split <;> rfl

theorem State.frameReceived_roll (bytes : List Byte) (s : State) : (s.frameReceived bytes).roll = s.roll := by
  have hheard : (s.mapLau (Lau.heardLevels bytes)).roll = s.roll := rfl
  unfold State.frameReceived
  split
  · rfl
  · rfl
  · rfl
  · rfl
  · rfl
  · split
    · exact (State.validFrame_roll ..).trans hheard
    · exact (State.failReception_roll _).trans hheard
  · split
    · exact (State.validFrame_roll ..).trans hheard
    · exact (State.failReception_roll _).trans hheard

theorem State.presenceExpired_rollStep (s : State) : s.RollStep ({ s with pub := s.pub.presenceExpired } : State).roll := by
  by_cases hdue : s.pub.presenceTimer = some 0
  · rw [Publisher.presenceExpired, if_pos hdue]
    exact .published (.giveByTimer (p := s.pub) s.roll.presence_mem_named rfl)
  · rw [Publisher.presenceExpired, if_neg hdue]
    exact .same s

theorem State.republishExpired_rollStep (s : State) : s.RollStep s.republishExpired.roll := by
  unfold State.republishExpired
  split
  · extract_lets timed pub
    split
    · next sub hsub =>
      have hnamed : sub ∈ s.roll.named := List.mem_cons_of_mem _ (s.eligible_sublist.subset (nextInRotation_mem hsub))
      exact .published (.giveByTimer (p := pub) hnamed rfl)
    · exact .same s
  · exact .same s

theorem State.balanceTake_rollStep (s : State) : s.RollStep s.balanceTake.roll := by
  unfold State.balanceTake
  split
  · next p rest hidle hqueue => exact .moved (fun _ h => .inl h) (.refl _) (.taken hidle hqueue)
  · exact .same s

theorem State.raiseEdge_roll (p : Nat) (old new : Verdict) (s : State) : (s.raiseEdge p old new).roll = s.roll := by
  unfold State.raiseEdge
  split <;> rfl

theorem State.balanceComplete_rollStep (s : State) : s.RollStep s.balanceComplete.roll := by
  unfold State.balanceComplete
  split
  · next p sh hcomputing hsheet =>
    split
    · next d rec hdef hrecord =>
      have hst : s.balance.status? p = some rec.status := by
        rw [BalanceEngine.status?, hrecord]
        rfl
      split
      · next hstatus => exact .moved (fun _ h => .inl h) (.refl _) (.redone hcomputing (hstatus ▸ hst))
      · next hstatus =>
        dsimp only
        rw [State.raiseEdge_roll]
        exact .moved (fun _ h => .inl h) (.refl _) (.settled hcomputing (hstatus ▸ hst))
      · exact .same s
      · exact .same s
    · exact .same s
  · exact .same s

/-! #### Every step -/

/-- What a command other than a power-on reset can do to the roll. -/
theorem exec_rollStep {c : Instr} (hc : ∀ byInput, c ≠ .powerOnReset byInput) (s : State) :
    s.RollStep (s.after c).roll := by
  cases c with
  | powerOnReset byInput => exact absurd rfl (hc byInput)
  | unknownRequest code =>
    show s.RollStep (if (paramBytes code).isNone then s.serveRequest (State.answerCode .unknown) else s).roll
    split
    · exact .of_eq (State.serveRequest_answer_roll .unknown (fun _ => []) s)
    · exact .same s
  | earlyDeselection bits => exact .of_eq (State.roll_of_blocks (s.earlyDeselection_blocks bits) (s.earlyDeselection_ledger bits))
  | status => exact .of_eq (State.serveRequest_answer_roll .done State.statusBytes s)
  | identify => exact .of_eq (State.serveRequest_answer_roll .done (fun _ => identifyBytes) s)
  | sheetBegin number revision ownSlot direction amendMode silence republish =>
    exact .of_eq (State.takeRequest_roll (State.sheetBegin_roll _) s)
  | sheetParcel parcel tRef a b d vef inner outer custody => exact .of_eq (State.takeRequest_roll (State.define_roll _) s)
  | sheetRoster slot role => exact .of_eq (State.takeRequest_roll (State.define_roll _) s)
  | sheetPoint point parcel meterFactor => exact .of_eq (State.takeRequest_roll (State.define_roll _) s)
  | sheetEnd => exact State.takeRequest_rollStep (fun s _ => s.sheetEnd_rollStep) s
  | sheetEndComplete => exact s.sheetEndComplete_rollStep
  | start => exact State.takeRequest_rollStep (fun s _ => s.start_rollStep) s
  | post point epoch quantity water temperature => exact State.takeRequest_rollStep (fun s _ => s.post_rollStep ..) s
  | stuGrant => exact .same s
  | stuObservationComputed => exact .of_eq s.stuComputed_roll
  | postStore => exact s.postStore_rollStep
  | permit => exact .of_eq (State.takeRequest_roll (State.setPermit_roll true) s)
  | revoke => exact .of_eq (State.takeRequest_roll (State.setPermit_roll false) s)
  | withdraw point => exact State.takeRequest_rollStep (fun s _ => s.withdraw_rollStep ..) s
  | withdrawalMade => exact s.withdrawalMade_rollStep
  | finalise => exact State.takeRequest_rollStep (fun s _ => s.finalise_rollStep) s
  | finaliseMade => exact s.finaliseMade_rollStep
  | attest parcel epoch => exact State.takeRequest_rollStep (fun s _ => s.attestRequest_rollStep ..) s
  | intakeHoldSet => exact .of_eq s.intakeHoldSet_roll
  | attestScanComplete => exact s.attestScanComplete_rollStep
  | restart => exact State.takeRequest_rollStep (fun s _ => s.restart_rollStep) s
  | restartChange => exact s.restartChange_rollStep
  | linkReset => exact State.takeRequest_rollStep (fun s _ => s.linkReset_rollStep) s
  | serviceQuery => exact .of_eq (State.serveRequest_answer_roll .done _ s)
  | acknowledge kind subject => exact .of_eq (State.takeRequest_roll (State.acknowledge_roll _ _) s)
  | noticeEnable kind setting =>
    exact .of_eq (State.takeRequest_roll (fun t => t.roll_of_blocks (t.noticeEnable_blocks ..) (t.noticeEnable_ledger ..)) s)
  | edgeSelect parcel setting =>
    exact .of_eq (State.takeRequest_roll (fun t => t.roll_of_blocks (t.edgeSelect_blocks ..) (t.edgeSelect_ledger ..)) s)
  | watchAdd slot point =>
    exact .of_eq (State.takeRequest_roll (fun t => t.roll_of_blocks (t.watchAdd_blocks ..) (t.watchAdd_ledger ..)) s)
  | watchRemove slot point =>
    exact .of_eq (State.takeRequest_roll (fun t => t.roll_of_blocks (t.watchRemove_blocks ..) (t.watchRemove_ledger ..)) s)
  | readPoint point => exact .of_eq (State.serveRequest_roll (State.readPoint_roll _) s)
  | readEntry form first second => exact .of_eq (State.serveRequest_roll (State.readEntry_roll _ _ _) s)
  | readParcel parcel => exact .of_eq (State.serveRequest_roll (State.readParcel_roll _) s)
  | readAttest parcel epoch => exact .of_eq (State.serveRequest_roll (State.readAttest_roll _ _) s)
  | readPeer slot =>
    exact .of_eq (State.serveRequest_roll (fun t => t.roll_of_blocks (t.readPeer_blocks _) (t.readPeer_ledger _)) s)
  | readCounters => exact .of_eq (State.serveRequest_answer_roll .done State.counterBytes s)
  | readNotices => exact .of_eq (State.serveRequest_answer_roll .done _ s)
  | walk index => exact .of_eq (State.serveRequest_roll (State.walk_roll _) s)
  | walkRecordTaken => exact .of_eq (State.roll_of_blocks s.walkNext_blocks s.walkNext_ledger)
  | walkDeselected => exact .same s
  | quiet => exact .same s
  | claimDecision => exact .same s
  | windowEnd => exact .same s
  | turnGap => exact s.turnGap_rollStep
  | turnTimeout => exact .same s
  | sendComplete stopDominant => exact s.sendComplete_rollStep stopDominant
  | clash => exact .of_eq s.clash_roll
  | clashMarkEnd => exact .of_eq s.clashMarkEnd_roll
  | receptionFailed =>
    show s.RollStep (if s.lau.line = .round .receiving then s.failReception else s).roll
    split
    · exact .of_eq s.failReception_roll
    · exact .same s
  | frameReceived bytes => exact .of_eq (s.frameReceived_roll bytes)
  | intakeTakeFrame => exact s.takeFrame_requests.rollStep
  | frameMerge => exact s.frameMerge_requests.rollStep
  | comparisonComplete => exact .of_eq s.comparisonComplete_roll
  | balanceTake => exact s.balanceTake_rollStep
  | balanceComplete => exact s.balanceComplete_rollStep
  | silenceTimerExpiry slot => exact (s.silenceExpired_requests slot.toNat).rollStep
  | presenceTimerExpiry => exact s.presenceExpired_rollStep
  | republishTimerExpiry => exact s.republishExpired_rollStep
  | dominantLevelRead startBit => exact .same s
  | claimSlotSample slot dominant => exact .same s
  | resetReleased selLow => exact .of_eq (State.roll_of_blocks (s.resetReleased_blocks selLow) (s.resetReleased_ledger selLow))

/-- What a step can do to the roll: a power-on reset, or one of the changes of `State.RollStep` to a state that is `s` but for
the commands that wait. -/
theorem step_roll {s t : State} (h : step s = .next t) :
    t.roll = State.reset.roll ∨ ∃ rest, ({ s with pending := rest } : State).RollStep t.roll := by
  rcases step_cases h with ⟨-, rfl⟩ | ⟨c, rest, -, hexec⟩
  · exact .inr ⟨s.pending, .same s⟩
  · rw [exec_next, Host.Outcome.next.injEq] at hexec
    by_cases hc : ∃ byInput, c = .powerOnReset byInput
    · obtain ⟨byInput, rfl⟩ := hc
      exact .inl (hexec ▸ rfl)
    · exact .inr ⟨rest, hexec ▸ exec_rollStep (fun byInput heq => hc ⟨byInput, heq⟩) { s with pending := rest }⟩

end Sys2Proof.Machine
end

section
/-! PROOFS. The invariants of the Balance Engine and of the transmit queue, and the statement that every step keeps the recompute
queue, the counts and the readings (R38, R49, R65, R66, R124, R125). -/

namespace Sys2Proof.Machine

/-! ### The queue and the statuses under every change of the engine (R65, R66) -/

/-- A parcel is COMPUTING or COMPUTING_REDO exactly when it is the one being computed (R66). -/
def BalanceEngine.ComputingOk (b : BalanceEngine) : Prop :=
  (∀ p ∈ b.computing, p ∈ b.records.map (·.parcel))
    ∧ ∀ r ∈ b.records, (r.status = .computing ∨ r.status = .computingRedo) ↔ b.computing = some r.parcel

theorem balanceInv_iff (s : State) :
    BalanceInv s ↔ SheetInv s ∧ IdleInv s ∧ QueueInv s.balance ∧ s.balance.ComputingOk := Iff.rfl

/-- One record changes, and what is being computed for its parcel alone. -/
theorem BalanceEngine.ComputingOk.modify {b e : BalanceEngine} {p : Nat} {f : ParcelRecord → ParcelRecord} (h : b.ComputingOk)
    (hrecords : e.records = (b.modify p f).records) (hf : ∀ r, (f r).parcel = r.parcel) (hp : p ∈ b.records.map (·.parcel))
    (hothers : ∀ n, n ≠ p → (e.computing = some n ↔ b.computing = some n))
    (hown : ∀ r ∈ b.records, r.parcel = p →
      (((f r).status = .computing ∨ (f r).status = .computingRedo) ↔ e.computing = some p)) : e.ComputingOk := by
  obtain ⟨hheld, hstatus⟩ := h
  refine ⟨fun n hn => ?_, ?_⟩
  · rw [hrecords, b.modify_parcels p hf]
    by_cases hnp : n = p
    · exact hnp ▸ hp
    · exact hheld n ((hothers n hnp).1 hn)
  · rw [hrecords]
    refine BalanceEngine.forall_mem_modify (fun r hr hparcel => ?_) (fun r hr hparcel => ?_)
    · rw [hf, hparcel]
      exact hown r hr hparcel
    · rw [hothers _ hparcel]
      exact hstatus r hr

theorem BalanceEngine.ComputingOk.note {b : BalanceEngine} (h : b.ComputingOk) (now : Reading) : (b.note now).ComputingOk := by
  rcases b.note_cases now with heq | ⟨-, heq⟩ <;> rw [heq] <;> exact h

/-- The parcel being computed is the one with that status. -/
theorem BalanceEngine.ComputingOk.computing_iff {b : BalanceEngine} (h : b.ComputingOk)
    (hascending : Ascending (b.records.map (·.parcel))) {p : Nat} {st : ComputeStatus} (hst : b.status? p = some st) :
    (st = .computing ∨ st = .computingRedo) ↔ b.computing = some p := by
  obtain ⟨hp, hall⟩ := BalanceEngine.status_of_status? hascending hst
  obtain ⟨r, hr, rfl⟩ := List.mem_map.1 hp
  rw [← hall r hr rfl]
  exact h.2 r hr

/-- A recompute request moves no parcel into or out of computation. -/
theorem BalanceEngine.ComputingOk.request {b : BalanceEngine} (h : b.ComputingOk)
    (hascending : Ascending (b.records.map (·.parcel))) (now : Reading) (p : Nat) : (b.request now p).ComputingOk := by
  have hnoted : Ascending ((b.note now).records.map (·.parcel)) := by rwa [BalanceEngine.note_records]
  rcases b.request_cases now p with ⟨hst, heq⟩ | ⟨hst, heq⟩ | ⟨-, heq⟩
  · rw [← b.note_status? now] at hst
    rw [heq]
    exact (h.note now).modify (p := p) (f := fun r => { r with status := .queued }) rfl (fun _ => rfl)
      (BalanceEngine.status_of_status? hnoted hst).1 (fun _ _ => Iff.rfl)
      (fun _ _ _ => by simpa using (h.note now).computing_iff hnoted hst)
  · rw [← b.note_status? now] at hst
    rw [heq]
    exact (h.note now).modify (p := p) (f := fun r => { r with status := .computingRedo }) rfl (fun _ => rfl)
      (BalanceEngine.status_of_status? hnoted hst).1 (fun _ _ => Iff.rfl)
      (fun _ _ _ => by simpa using (h.note now).computing_iff hnoted hst)
  · exact heq ▸ h.note now

/-- The queue and what is being computed fit the statuses. -/
abbrev BalanceEngine.Consistent (b : BalanceEngine) : Prop := QueueInv b ∧ b.ComputingOk

theorem BalanceEngine.Consistent.of_requested {P : Reading → Prop} {b c : BalanceEngine} (h : b.Consistent)
    (hrequested : b.Requested P c) : c.Consistent := by
  induction hrequested with
  | refl => exact h
  | @request c now p _ _ ih =>
    obtain ⟨hqueue, hcomputing⟩ := ih
    exact ⟨hqueue.request now p, hcomputing.request hqueue.ascending now p⟩

/-- RESTART queues every parcel (R73). -/
theorem BalanceEngine.Consistent.restarted {b : BalanceEngine} (h : b.Consistent) : BalanceEngine.Consistent
    { records := b.records.map (fun r => ParcelRecord.create .queued r.parcel), queue := b.records.map (·.parcel)
      computing := none, seen := [] } := by
  obtain ⟨⟨hascending, -⟩, -⟩ := h
  have hparcels : (b.records.map (fun r => ParcelRecord.create .queued r.parcel)).map (·.parcel) =
      b.records.map (·.parcel) := by
    rw [List.map_map]
    rfl
  have hqueued : ∀ r ∈ b.records.map (fun r => ParcelRecord.create .queued r.parcel), r.status = .queued := by
    simp [ParcelRecord.create]
  refine ⟨⟨hparcels ▸ hascending, hascending.nodup, fun p hp => hparcels ▸ hp, fun r hr => ?_⟩, by simp,
    fun r hr => ?_⟩
  · rw [← hparcels]
    exact iff_of_true (hqueued r hr) (List.mem_map_of_mem hr)
  · simp [hqueued r hr]

/-- The head parcel of the queue is the one being computed (R66). -/
theorem BalanceEngine.Consistent.taken {b : BalanceEngine} (h : b.Consistent) {p : Nat} {rest : List Nat}
    (hidle : b.computing = none) (hqueue : b.queue = p :: rest) (seen : List Reading) :
    BalanceEngine.Consistent { b.setStatus p .computing with queue := rest, computing := some p, seen := seen } := by
  obtain ⟨hqueueInv, hcomputing⟩ := h
  obtain ⟨-, -, hheld, -⟩ := id hqueueInv
  obtain ⟨hnot, hrest⟩ := List.nodup_cons.1 (hqueue ▸ hqueueInv.nodup)
  have hp : p ∈ b.records.map (·.parcel) := hheld p (hqueue ▸ List.mem_cons_self ..)
  refine ⟨hqueueInv.modify (p := p) (f := fun r => { r with status := .computing }) rfl (fun _ => rfl) hp hrest
      (fun n hn => ?_) (fun _ _ _ => ?_),
    hcomputing.modify (p := p) (f := fun r => { r with status := .computing }) rfl (fun _ => rfl) hp
      (fun n hn => ?_) (fun _ _ _ => ?_)⟩
  · simp [hqueue, hn]
  · simpa using hnot
  · simpa [hidle] using Ne.symm hn
  · simp

/-- A completion makes the parcel that was being computed IDLE, or QUEUED at the tail (R67). -/
theorem BalanceEngine.Consistent.completed {b : BalanceEngine} (h : b.Consistent) {p : Nat} {st : ComputeStatus}
    (hcomputing : b.computing = some p) (hst : b.status? p = some st) (hne : st ≠ .queued) {f : ParcelRecord → ParcelRecord}
    (hf : ∀ r, (f r).parcel = r.parcel) {queue : List Nat}
    (hqueue : (queue = b.queue ∧ ∀ r, (f r).status = .idle) ∨ (queue = b.queue ++ [p] ∧ ∀ r, (f r).status = .queued)) :
    BalanceEngine.Consistent { b.modify p f with queue := queue, computing := none, seen := [] } := by
  obtain ⟨hqueueInv, hcomputingOk⟩ := h
  have hnot := hqueueInv.not_mem hst hne
  have hp := (BalanceEngine.status_of_status? hqueueInv.ascending hst).1
  have hnodup := hqueueInv.nodup
  refine ⟨hqueueInv.modify (p := p) (f := f) rfl hf hp ?_ (fun n hn => ?_) (fun r _ _ => ?_),
    hcomputingOk.modify (p := p) (f := f) rfl hf hp (fun n hn => ?_) (fun r _ _ => ?_)⟩
  · rcases hqueue with ⟨rfl, -⟩ | ⟨rfl, -⟩
    · exact hnodup
    · exact List.nodup_append_comm.1 (List.nodup_cons.2 ⟨hnot, hnodup⟩)
  · rcases hqueue with ⟨rfl, -⟩ | ⟨rfl, -⟩ <;> simp [hn]
  · rcases hqueue with ⟨rfl, hstatus⟩ | ⟨rfl, hstatus⟩ <;> simp [hstatus, hnot]
  · simpa [hcomputing] using Ne.symm hn
  · rcases hqueue with ⟨-, hstatus⟩ | ⟨-, hstatus⟩ <;> simp [hstatus]

theorem State.Computes.consistent {s : State} {b : BalanceEngine} (h : s.Computes b) (hs : s.balance.Consistent) :
    b.Consistent := by
  cases h with
  | requested hrequested => exact hs.of_requested hrequested
  | restarted => exact hs.restarted
  | taken hidle hqueue => exact hs.taken hidle hqueue _
  | settled hcomputing hstatus =>
    refine hs.completed hcomputing hstatus (by decide) (fun r => ?_) (.inl ⟨rfl, fun r => ?_⟩) <;> rfl
  | redone hcomputing hstatus =>
    refine hs.completed hcomputing hstatus (by decide) (fun r => ?_) (.inr ⟨rfl, fun r => ?_⟩) <;> rfl

/-! ### The counts and the readings kept (R38, R49) -/

/-- The four counts of a parcel record together (R49). -/
def ParcelResult.counted (c : ParcelResult) : Nat := c.shipCount + c.custodyCount + c.checkCount + c.lackingCount

/-- Every reading kept fits, and no record counts more points than one such reading has. -/
def BalanceEngine.Bounded (b : BalanceEngine) : Prop :=
  (∀ v ∈ b.seen, v.Fits) ∧ ∀ r ∈ b.records, r.result.counted ≤ 184

theorem compute_counted_le {r : Reading} (h : r.Fits) (sh : Sheet) (d : ParcelDef) : (compute sh d r).counted ≤ 184 := by
  obtain ⟨hown, hentries⟩ := h
  have hcounts : (compute sh d r).counted = (r.points d.number).length := compute_counts sh d r
  have := r.points_length_le d.number
  omega

theorem tornReading_fits {free : Nat} {versions : List Reading} {last : Reading} (hlast : last ∈ versions)
    (h : ∀ v ∈ versions, v.Fits) : (tornReading free versions last).Fits := by
  obtain ⟨-, -, -, hroom⟩ := tornReading_entries (free := free) hlast
  exact ⟨tornReading_own_length.trans (h last hlast).1, hroom fun v hv => (h v hv).2⟩

/-- One record changes, to one whose counts are as bounded, and no reading is kept but those there were and ones that fit. -/
theorem BalanceEngine.Bounded.modify {b e : BalanceEngine} {p : Nat} {f : ParcelRecord → ParcelRecord} (h : b.Bounded)
    (hrecords : e.records = (b.modify p f).records)
    (hf : ∀ r : ParcelRecord, r.result.counted ≤ 184 → (f r).result.counted ≤ 184)
    (hseen : ∀ v ∈ e.seen, v.Fits) : e.Bounded := by
  refine ⟨hseen, ?_⟩
  rw [hrecords]
  exact BalanceEngine.forall_mem_modify (fun r hr _ => hf r (h.2 r hr)) (fun r hr _ => h.2 r hr)

theorem BalanceEngine.Bounded.note {b : BalanceEngine} (h : b.Bounded) {now : Reading} (hnow : now.Fits) :
    (b.note now).Bounded := by
  rcases b.note_cases now with heq | ⟨-, heq⟩ <;> rw [heq]
  · exact h
  · refine ⟨fun v hv => ?_, h.2⟩
    rcases List.mem_append.1 hv with hv | hv
    · exact h.1 v hv
    · exact List.mem_singleton.1 hv ▸ hnow

theorem BalanceEngine.Bounded.request {b : BalanceEngine} (h : b.Bounded) {now : Reading} (hnow : now.Fits) (p : Nat) :
    (b.request now p).Bounded := by
  have hnoted := h.note hnow
  rcases b.request_cases now p with ⟨-, heq⟩ | ⟨-, heq⟩ | ⟨-, heq⟩ <;> rw [heq]
  · exact hnoted.modify (p := p) (f := fun r => { r with status := .queued }) rfl (fun _ hr => hr) hnoted.1
  · exact hnoted.modify (p := p) (f := fun r => { r with status := .computingRedo }) rfl (fun _ hr => hr) hnoted.1
  · exact hnoted

theorem BalanceEngine.Bounded.of_requested {P : Reading → Prop} (hP : ∀ now, P now → now.Fits) {b c : BalanceEngine}
    (h : b.Bounded) (hrequested : b.Requested P c) : c.Bounded := by
  induction hrequested with
  | refl => exact h
  | request p _ hnow ih => exact ih.request (hP _ hnow) p

/-- Every record's counts are those of a reading that fits, or 0 from a RESTART on. -/
theorem State.Computes.bounded {s : State} {b : BalanceEngine} (h : s.Computes b) (htable : TableInv s)
    (hown : s.table.own.length ≤ 24) (hs : s.balance.Bounded) : b.Bounded := by
  have hfits : s.reading.Fits := by
    obtain ⟨-, -, hlength, -⟩ := htable
    exact ⟨hown, hlength⟩
  cases h with
  | requested hrequested => exact hs.of_requested (fun _ hnow => hnow htable hown) hrequested
  | restarted => exact ⟨by simp, by simp [ParcelRecord.create, ParcelResult.initial, ParcelResult.counted]⟩
  | taken hidle hqueue =>
    exact hs.modify (f := fun r => { r with status := .computing }) rfl (fun _ hr => hr)
      (List.forall_mem_singleton.2 hfits)
  | settled hcomputing hstatus => exact hs.modify rfl (fun _ _ => compute_counted_le hfits _ _) (by simp)
  | redone hcomputing hstatus =>
    refine hs.modify rfl (fun _ _ => compute_counted_le (tornReading_fits ?_ fun v hv => ?_) _ _) (by simp)
    · exact List.mem_append_right _ (List.mem_singleton_self _)
    · rcases List.mem_append.1 hv with hv | hv
      · exact hs.1 v hv
      · exact List.mem_singleton.1 hv ▸ hfits

/-! ### The records that subjects are named by, and the transmit queue (R23, R74, R124) -/

/-- What `TransmitInv` says beside the sheet and the idle node, said of the roll. -/
def Roll.TransmitOk (R : Roll) : Prop :=
  Ascending R.points ∧ (∀ k ∈ R.points, k < 24) ∧ R.attests.Nodup
    ∧ (∀ k ∈ R.attests, k.1 ∈ parcelNumbers ∧ k.2 ∈ attestedEpochs) ∧ (∀ op ∈ R.busy, op.subjectOk = true)
    ∧ R.subjects.Nodup ∧ ∀ sub ∈ R.subjects, sub ∈ allSubjects

theorem transmitInv_iff (s : State) : TransmitInv s ↔ SheetInv s ∧ IdleInv s ∧ s.roll.TransmitOk := by
  simp only [TransmitInv, Roll.TransmitOk, State.roll, List.forall_mem_map]
  rfl

theorem point_mem_allSubjects {k : Nat} (h : k < 24) : .point k ∈ allSubjects :=
  List.mem_append_left _ (List.mem_cons_of_mem _ (List.mem_map_of_mem (List.mem_range.2 h)))

theorem attest_mem_allSubjects {p : Nat} {e : Epoch} (hp : p ∈ parcelNumbers) (he : e ∈ attestedEpochs) :
    .attest p e ∈ allSubjects := by
  refine List.mem_append_right _ (List.mem_flatMap.2 ⟨p, hp, ?_⟩)
  simpa [attestedEpochs] using he

theorem Roll.TransmitOk.named_nodup {R : Roll} (h : R.TransmitOk) : R.named.Nodup := by
  obtain ⟨hpoints, -, hattests, -⟩ := h
  refine List.nodup_cons.2 ⟨by simp, List.nodup_append.2 ⟨hpoints.nodup.map ?_, hattests.map ?_, ?_⟩⟩
  · exact fun j k hjk => Subject.point.inj hjk
  · rintro ⟨p, e⟩ ⟨q, f⟩ heq
    obtain ⟨rfl, rfl⟩ := Subject.attest.inj heq
    rfl
  · rintro _ hpoint _ hattest rfl
    obtain ⟨k, -, rfl⟩ := List.mem_map.1 hpoint
    obtain ⟨x, -, heq⟩ := List.mem_map.1 hattest
    cases heq

theorem Roll.TransmitOk.named_subset {R : Roll} (h : R.TransmitOk) : ∀ sub ∈ R.named, sub ∈ allSubjects := by
  obtain ⟨-, hpoints, -, hattests, -⟩ := h
  intro sub hsub
  rcases List.mem_cons.1 hsub with rfl | hsub
  · decide
  · rcases List.mem_append.1 hsub with hsub | hsub
    · obtain ⟨k, hk, rfl⟩ := List.mem_map.1 hsub
      exact point_mem_allSubjects (hpoints k hk)
    · obtain ⟨x, hx, rfl⟩ := List.mem_map.1 hsub
      exact attest_mem_allSubjects (hattests x hx).1 (hattests x hx).2

theorem LongOp.attest_subjectOk {p : Nat} {e : Epoch} (h : (LongOp.attest p e).subjectOk = true) :
    .attest p e ∈ allSubjects := by
  obtain ⟨hp, he⟩ := of_decide_eq_true h
  exact attest_mem_allSubjects hp he

/-- The queue stays without two jobs for one subject, whatever is given or renewed (R125). -/
theorem Roll.Publishes.ok {R : Roll} {subjects : List Subject} (h : R.Publishes subjects) (hR : R.TransmitOk) :
    subjects.Nodup ∧ ∀ sub ∈ subjects, sub ∈ allSubjects := by
  obtain ⟨-, -, -, -, hbusy, hnodup, hsubjects⟩ := id hR
  cases h with
  | fewer h =>
    obtain ⟨kept, hperm, hsublist⟩ := id h
    exact ⟨hperm.nodup_iff.1 (hsublist.nodup hnodup), fun sub hsub => hsubjects sub (h.subset hsub)⟩
  | @given sub hsub =>
    have hmem : sub ∈ allSubjects := by
      rcases hsub with hsub | ⟨p, e, rfl, hop⟩
      · exact hR.named_subset sub hsub
      · exact LongOp.attest_subjectOk (hbusy _ hop)
    split
    · rw [List.append_nil]
      exact ⟨hnodup, hsubjects⟩
    · next hnot =>
      refine ⟨List.nodup_append_comm.1 (List.nodup_cons.2 ⟨hnot, hnodup⟩), fun x hx => ?_⟩
      rcases List.mem_append.1 hx with hx | hx
      · exact hsubjects x hx
      · exact List.mem_singleton.1 hx ▸ hmem
  | renewed h => exact ⟨h.nodup hR.named_nodup, fun sub hsub => hR.named_subset sub (h.subset hsub)⟩

theorem Sheet.ownRecords_numbers (sh : Sheet) : (sh.ownRecords.map (·.number)).Sublist (sh.points.map (·.number)) := by
  unfold Sheet.ownRecords
  split
  · rw [List.map_map]
    exact .refl _
  · exact List.nil_sublist _

theorem SheetInv.sheetOk {s : State} (h : SheetInv s) {sh : Sheet} (hsheet : s.sheet.sheet = some sh) : SheetOk sh := by
  obtain ⟨-, hok, -⟩ := h
  exact hok sh hsheet

/-- The records of START are those of a good sheet (R23, R75). -/
theorem SheetOk.started_records {sh : Sheet} (h : SheetOk sh) :
    Ascending (sh.ownRecords.map (·.number)) ∧ (∀ k ∈ sh.ownRecords.map (·.number), k < 24)
      ∧ (sh.parcels.flatMap (fun p => [(p.number, Epoch.opening), (p.number, Epoch.closing)])).Nodup
      ∧ ∀ k ∈ sh.parcels.flatMap (fun p => [(p.number, Epoch.opening), (p.number, Epoch.closing)]),
          k.1 ∈ parcelNumbers ∧ k.2 ∈ attestedEpochs := by
  obtain ⟨-, -, hparcels, hparcelRanges, hpoints, hpointRanges⟩ := h
  refine ⟨hpoints.sublist sh.ownRecords_numbers, fun k hk => ?_, List.nodup_flatMap.2 ⟨fun p _ => by simp, ?_⟩,
    fun k hk => ?_⟩
  · obtain ⟨d, hd, rfl⟩ := List.mem_map.1 (sh.ownRecords_numbers.subset hk)
    have hrange : pointInRange d.number = true := by
      have := hpointRanges d hd
      simp only [PointDef.inRange, Bool.and_eq_true] at this
      tauto
    have : d.number ≤ 23 := of_decide_eq_true hrange
    omega
  · refine (List.pairwise_map.1 hparcels).imp fun hlt => ?_
    have hne := Nat.ne_of_lt hlt
    simp [Function.onFun, List.disjoint_left, hne]
  · obtain ⟨d, hd, hk⟩ := List.mem_flatMap.1 hk
    have hrange : parcelInRange d.number = true := by
      have := hparcelRanges d hd
      simp only [ParcelDef.inRange, Bool.and_eq_true] at this
      tauto
    have hnumber := (mem_parcelNumbers_iff _).2 ((parcelInRange_iff _).1 hrange)
    simp only [List.mem_cons, List.not_mem_nil, or_false] at hk
    rcases hk with rfl | rfl
    · exact ⟨hnumber, show Epoch.opening ∈ attestedEpochs by decide⟩
    · exact ⟨hnumber, show Epoch.closing ∈ attestedEpochs by decide⟩

/-- A node in LOADED has its blocks at their power-on values. -/
theorem State.idle_of_loaded {s : State} (hsheet : SheetInv s) (hidle : IdleInv s) (hstate : s.sheet.node = .loaded) : s.Idle :=
  have hoff : s.running = false := by simp [State.running, hstate]
  ⟨hoff, hsheet, (idleInv_iff s).1 hidle hoff⟩

theorem State.RollStep.transmitOk {s : State} {R : Roll} (h : s.RollStep R) (hsheet : SheetInv s) (hidle : IdleInv s)
    (hs : s.roll.TransmitOk) : R.TransmitOk := by
  obtain ⟨hpoints, hpointRange, hattests, hattestRange, hbusyOk, -⟩ := id hs
  cases h with
  | @moved busy subjects balance hbusy hsubjects hbalance =>
    obtain ⟨hnodup, hnamed⟩ := hsubjects.ok hs
    refine ⟨hpoints, hpointRange, hattests, hattestRange, fun op hop => ?_, hnodup, hnamed⟩
    rcases hbusy op hop with hheld | hok
    · exact hbusyOk op hheld
    · exact hok
  | @started sh hstate hheld =>
    obtain ⟨hpoints', hpointRange', hattests', hattestRange'⟩ := (SheetInv.sheetOk hsheet hheld).started_records
    have hpub : (s.pub.give .presence).queue.map (·.subject) = [.presence] := by
      rw [(State.idle_of_loaded hsheet hidle hstate).pub]
      rfl
    refine ⟨hpoints', hpointRange', hattests', hattestRange', hbusyOk, ?_⟩
    rw [hpub]
    exact ⟨List.nodup_singleton _, List.forall_mem_singleton.2 (by decide)⟩

/-- START has every parcel IDLE and nothing queued (R50). -/
theorem BalanceEngine.started_consistent {ns : List ParcelDef} (h : Ascending (ns.map (·.number))) :
    BalanceEngine.Consistent { BalanceEngine.reset with records := ns.map (fun p => ParcelRecord.create .idle p.number) } := by
  have hidle : ∀ r ∈ ns.map (fun p => ParcelRecord.create .idle p.number), r.status = .idle := by
    simp [ParcelRecord.create]
  refine ⟨⟨?_, by simp [BalanceEngine.reset], by simp [BalanceEngine.reset], fun r hr => ?_⟩, by simp [BalanceEngine.reset],
    fun r hr => ?_⟩
  · rw [List.map_map]
    exact h
  · simp [hidle r hr, BalanceEngine.reset]
  · simp [hidle r hr, BalanceEngine.reset]

theorem State.RollStep.consistent {s : State} {R : Roll} (h : s.RollStep R) (hsheet : SheetInv s) (hidle : IdleInv s)
    (hs : s.balance.Consistent) : R.balance.Consistent := by
  cases h with
  | moved hbusy hsubjects hbalance => exact hbalance.consistent hs
  | @started sh hstate hheld =>
    obtain ⟨-, -, hparcels, -⟩ := SheetInv.sheetOk hsheet hheld
    rw [(State.idle_of_loaded hsheet hidle hstate).balance]
    exact BalanceEngine.started_consistent hparcels

theorem State.RollStep.bounded {s : State} {R : Roll} (h : s.RollStep R) (htable : TableInv s)
    (hown : s.table.own.length ≤ 24) (hs : s.balance.Bounded) : R.balance.Bounded := by
  cases h with
  | moved hbusy hsubjects hbalance => exact hbalance.bounded htable hown hs
  | started hstate hheld =>
    exact ⟨hs.1, by simp [ParcelRecord.create, ParcelResult.initial, ParcelResult.counted]⟩

/-! ### Every step keeps them -/

theorem balanceInv_step {s t : State} (hstep : step s = .next t) (h : BalanceInv s) : BalanceInv t := by
  rw [balanceInv_iff] at *
  obtain ⟨hsheet, hidle, hconsistent⟩ := h
  refine ⟨sheetInv_step hstep hsheet, idleInv_step hstep hsheet hidle, ?_⟩
  rcases step_roll hstep with heq | ⟨rest, hs⟩
  · have hreset : t.balance = BalanceEngine.reset := congrArg Roll.balance heq
    rw [hreset]
    exact ⟨by decide, by simp [BalanceEngine.ComputingOk, BalanceEngine.reset]⟩
  · exact hs.consistent hsheet hidle hconsistent

theorem transmitInv_step {s t : State} (hstep : step s = .next t) (h : TransmitInv s) : TransmitInv t := by
  rw [transmitInv_iff] at *
  obtain ⟨hsheet, hidle, htransmit⟩ := h
  refine ⟨sheetInv_step hstep hsheet, idleInv_step hstep hsheet hidle, ?_⟩
  rcases step_roll hstep with heq | ⟨rest, hs⟩
  · rw [heq]
    obtain ⟨-, -, hreset⟩ := (transmitInv_iff State.reset).1 (by decide)
    exact hreset
  · exact hs.transmitOk hsheet hidle htransmit

/-- Own points in ascending number below 24 are at most 24. -/
theorem TransmitInv.own_length_le {s : State} (h : TransmitInv s) : s.table.own.length ≤ 24 := by
  obtain ⟨-, -, hascending, hrange, -⟩ := h
  have hsubset : s.table.own.map (·.number) ⊆ List.range 24 := by
    intro k hk
    obtain ⟨o, ho, rfl⟩ := List.mem_map.1 hk
    exact List.mem_range.2 (hrange o ho)
  simpa using (hascending.nodup.subperm hsubset).length_le

theorem countsInv_iff (s : State) : CountsInv s ↔ TransmitInv s ∧ TableInv s ∧ OwnSlotInv s ∧ s.balance.Bounded := Iff.rfl

theorem BalanceEngine.reset_bounded : BalanceEngine.reset.Bounded := by
  simp [BalanceEngine.Bounded, BalanceEngine.reset]

theorem countsInv_reset : CountsInv State.reset :=
  (countsInv_iff _).2 ⟨by decide, by decide, by decide, BalanceEngine.reset_bounded⟩

theorem countsInv_step {s t : State} (hstep : step s = .next t) (h : CountsInv s) : CountsInv t := by
  rw [countsInv_iff] at *
  obtain ⟨htransmit, htable, hownSlot, hbounded⟩ := h
  refine ⟨transmitInv_step hstep htransmit, tableInv_step hstep htable, ownSlotInv_step hstep hownSlot, ?_⟩
  rcases step_roll hstep with heq | ⟨rest, hs⟩
  · have hreset : t.balance = BalanceEngine.reset := congrArg Roll.balance heq
    rw [hreset]
    exact BalanceEngine.reset_bounded
  · exact hs.bounded htable (TransmitInv.own_length_le htransmit) hbounded

/-- Settles O57: each step is a change of the roll, and each such change keeps the queue with the statuses, and the counts and
readings within a table's capacity. -/
theorem recomputeQueueMatchesTheStatuses : Obligations.RecomputeQueueMatchesTheStatuses :=
  ⟨fun _ _ h hstep => balanceInv_step hstep h, countsInv_reset, fun _ _ h hstep => countsInv_step hstep h⟩

end Sys2Proof.Machine
end

section
/-! PROOFS. Attestation and view comparison: the ATTEST request, the view's scan, the end of an ATTEST's scan, and the
comparison on receipt (04 sections 4.2, 4.4). -/

namespace Sys2Proof.Machine

/-! ### The ATTEST request and the hold (R27, R76) -/

theorem Epoch.ofAttestCode_of_attested {code : Nat} (h : code = 1 ∨ code = 3) :
    Epoch.ofAttestCode code = some (if code = 1 then .opening else .closing) := by
  rcases h with rfl | rfl <;> rfl

theorem Epoch.ofAttestCode_of_other {code : Nat} (h : code ≠ 1 ∧ code ≠ 3) : Epoch.ofAttestCode code = none := by
  obtain ⟨hopening, hclosing⟩ := h
  unfold Epoch.ofAttestCode
  split
  · exact absurd rfl hopening
  · exact absurd rfl hclosing
  · rfl

theorem State.not_parcelDefined_iff (s : State) (p : Nat) :
    s.parcelDefined p = false ↔ ∀ sh ∈ s.sheet.sheet, ∀ d ∈ sh.parcels, d.number ≠ p := by
  rw [Bool.eq_false_iff, Ne, State.parcelDefined_iff]
  simp

theorem FigureTable.not_attestable_iff (t : FigureTable) (p : Nat) (e : Epoch) :
    t.attestable p e = false ↔ ∃ o ∈ t.own, o.parcel = p ∧ o.withdrawn = false ∧ o.slots.get e = none := by
  simp [FigureTable.attestable, viewOwn_eq, and_assoc]

/-- The refusals of R76's table. -/
def State.attestRefusals (s : State) (parcel epoch : Nat) (e : Epoch) : List (Bool × ResultCode) :=
  [ (decide (s.sheet.node ≠ .active ∧ s.sheet.node ≠ .final), .state),
    (decide ((epoch ≠ 1 ∧ epoch ≠ 3) ∨ parcel < 1 ∨ 8 < parcel), .range),
    (decide (∀ sh ∈ s.sheet.sheet, ∀ d ∈ sh.parcels, d.number ≠ parcel), .noParcel),
    (decide (∃ o ∈ s.table.own, o.parcel = parcel ∧ o.withdrawn = false ∧ o.slots.get e = none), .incomplete) ]

/-- The state after an accepted ATTEST: BUSY with it, and the hold requested (R78 step 1). -/
def State.attestAccepted (s : State) (parcel : Nat) (e : Epoch) : State :=
  { s.accepted (.attest parcel e) with
    table := { s.table with hold := s.table.hold.requestByAttest s.intake.merging.isSome } }

theorem State.attestRequest_of_not_running {s : State} (h : s.running = false) (parcel epoch : Nat) :
    s.attestRequest parcel epoch = s.answerCode .state := by
  simp [State.attestRequest, h]

theorem State.attestRequest_of_out_of_range {s : State} {parcel epoch : Nat} (hrunning : s.running = true)
    (h : (epoch ≠ 1 ∧ epoch ≠ 3) ∨ parcel < 1 ∨ 8 < parcel) : s.attestRequest parcel epoch = s.answerCode .range := by
  rcases h with hepoch | hparcel
  · simp [State.attestRequest, hrunning, Epoch.ofAttestCode_of_other hepoch]
  · have hout : parcelInRange parcel = false := by
      rw [Bool.eq_false_iff, Ne, parcelInRange_iff]
      omega
    cases hcode : Epoch.ofAttestCode epoch <;> simp [State.attestRequest, hrunning, hcode, hout]

theorem State.attestRequest_of_inRange {s : State} {parcel epoch : Nat} {e : Epoch} (hrunning : s.running = true)
    (hepoch : Epoch.ofAttestCode epoch = some e) (hparcel : 1 ≤ parcel ∧ parcel ≤ 8) :
    s.attestRequest parcel epoch =
      if s.parcelDefined parcel = false then s.answerCode .noParcel
      else if s.table.attestable parcel e = false then s.answerCode .incomplete
      else { s.accept (.attest parcel e) with
        table := { s.table with hold := s.table.hold.requestByAttest s.intake.merging.isSome } } := by
  simp only [State.attestRequest, hrunning, hepoch, (parcelInRange_iff parcel).2 hparcel, Bool.not_eq_true',
    Bool.not_true, Bool.false_eq_true, if_false]
  rfl

theorem State.newSelection_attestRequest (parcel epoch : Nat) (s : State) :
    let e : Epoch := if epoch = 1 then .opening else .closing
    s.newSelection.attestRequest parcel epoch =
      s.checked (s.attestRefusals parcel epoch e) (s.attestAccepted parcel e) := by
  intro e
  simp only [State.attestRefusals, State.checked_cons, State.checked_nil, decide_eq_true_eq, ← State.not_running_iff,
    ← State.not_parcelDefined_iff, ← FigureTable.not_attestable_iff]
  cases hrunning : s.running with
  | false => exact State.attestRequest_of_not_running ((State.newSelection_running s).trans hrunning) parcel epoch
  | true =>
    have hrunning' := (State.newSelection_running s).trans hrunning
    by_cases hrange : (epoch ≠ 1 ∧ epoch ≠ 3) ∨ parcel < 1 ∨ 8 < parcel
    · rw [if_neg (by decide), if_pos hrange]
      exact State.attestRequest_of_out_of_range hrunning' hrange
    · rw [if_neg (by decide), if_neg hrange]
      exact State.attestRequest_of_inRange hrunning' (Epoch.ofAttestCode_of_attested (by omega)) (by omega)

/-- The request for the hold is granted at once unless a frame is being merged (R27). -/
theorem Hold.requestByAttest_isSome {α : Type} [DecidableEq α] (h : Hold) (merging : Option α) :
    h.requestByAttest merging.isSome =
      if merging = none then { holder := some .attestation, waiting := false } else { h with waiting := true } := by
  cases merging <;> rfl

/-- Settles O23: the checks of R76 in order, and the grant of the hold to a waiting request. -/
theorem attestIsCheckedAndTakesTheHold : Obligations.AttestIsCheckedAndTakesTheHold := by
  refine ⟨fun parcel epoch s h => ?_, fun s hhold hmerging => ?_, fun s h => ?_⟩
  · have hepoch (code : Byte) : epoch = code ↔ epoch.toNat = code.toNat := BitVec.toNat_inj.symm
    refine (exec_request_idle h _).trans (congrArg _ ?_)
    rw [State.newSelection_attestRequest, State.attestAccepted, Hold.requestByAttest_isSome]
    simp only [hepoch, ne_eq]
    rfl
  · exact congrArg _ (if_pos (by simp [hhold, hmerging]))
  · refine congrArg _ (if_neg ?_)
    rintro ⟨hwaiting, hholder, hmerging⟩
    simp [hwaiting, hholder, hmerging] at h

/-! ### The view's scan (R77) -/

theorem length_filterMap_slot {α β : Type} (slot : α → Option β) (value : β → Nat) (l : List α) :
    (l.filterMap (fun x => (slot x).map value)).length = (l.filter (fun x => (slot x).isSome)).length := by
  simp [List.length_filterMap_eq_countP, List.countP_eq_length_filter]

theorem sum_filterMap_slot {α β : Type} (slot : α → Option β) (value : β → Nat) (l : List α) :
    (l.filterMap (fun x => (slot x).map value)).sum =
      ((l.filter (fun x => (slot x).isSome)).map (fun x => ((slot x).map value).getD 0)).sum := by
  induction l with
  | nil => rfl
  | cons x xs ih => cases hslot : slot x <;> simp [hslot, ih]

theorem viewOwn_holding (own : List OwnPoint) (p : Nat) (e : Epoch) :
    (viewOwn own p).filter (fun o => (o.slots.get e).isSome) =
      own.filter (fun o => decide (o.parcel = p ∧ o.withdrawn = false ∧ (o.slots.get e).isSome = true)) := by
  rw [viewOwn_eq, List.filter_filter]
  exact List.filter_congr fun o _ => by simp [Bool.and_comm, Bool.and_left_comm, Bool.and_assoc]

theorem viewEntries_holding (s : State) (p : Nat) (e : Epoch) :
    (viewEntries s.table.entries s.peers p).filter (fun x => (x.slots.get e).isSome) =
      s.table.entries.filter (fun x =>
        decide (x.parcel = p ∧ (s.peer x.slot).state ≠ .foreign ∧ (x.slots.get e).isSome = true)) := by
  rw [viewEntries_eq, List.filter_filter]
  exact List.filter_congr fun x _ => by simp [State.peer, Bool.and_comm, Bool.and_left_comm]

/-- Settles O24: the points that hold the epoch, by `length_filterMap_slot` and `sum_filterMap_slot`. -/
theorem viewScanCountsAndSums : Obligations.ViewScanCountsAndSums := by
  intro s p e own entries
  have hown := viewOwn_holding s.table.own p e
  have hentries := viewEntries_holding s p e
  refine ⟨?_, ?_⟩
  · rw [State.scan, State.scanned, List.length_append, length_filterMap_slot, length_filterMap_slot, hown, hentries]
  · rw [State.scan, State.scanned, List.sum_append, sum_filterMap_slot, sum_filterMap_slot, hown, hentries]

/-! ### Protection raised, and the hold released (R27, R34) -/

/-- Raising the selected points leaves the own points as they are exactly when every one is already at the level. -/
theorem map_raised_eq_self_iff (own : List OwnPoint) (level : Protection) (which : OwnPoint → Bool) :
    own.map (fun o => if which o then { o with protection := o.protection.raised level } else o) = own
      ↔ ¬ ∃ o ∈ own, which o = true ∧ o.protection ≠ o.protection.raised level := by
  have hmap := List.map_inj_left (l := own) (g := id)
    (f := fun o => if which o then { o with protection := o.protection.raised level } else o)
  rw [List.map_id] at hmap
  rw [hmap]
  push Not
  refine forall₂_congr fun o _ => ⟨fun h hwhich => ?_, fun h => ?_⟩
  · rw [if_pos hwhich] at h
    exact (congrArg OwnPoint.protection h).symm
  · cases hwhich : which o with
    | false => rfl
    | true => rw [if_pos rfl, ← h hwhich, id]

theorem FigureTable.protect_eq (t : FigureTable) (level : Protection) (which : OwnPoint → Bool) :
    t.protect level which = { t with
      own := t.own.map (fun o => if which o then { o with protection := o.protection.raised level } else o)
      changeCount := if ∃ o ∈ t.own, which o = true ∧ o.protection ≠ o.protection.raised level then t.changeCount + 1
        else t.changeCount } := by
  have hsame := map_raised_eq_self_iff t.own level which
  rcases t.protect_cases level which with ⟨hown, h⟩ | ⟨hown, h⟩
  · rw [h, if_neg (hsame.1 hown), hown]
  · rw [h, if_pos (not_not.1 (mt hsame.2 hown))]
    rfl

theorem Hold.release_eq (h : Hold) : h.release =
    if h.waiting then { holder := some .attestation, waiting := false } else { holder := none, waiting := false } := rfl

/-! ### The end of an ATTEST's scan (R34, R78, R79) -/

theorem Protection.raised_epoch (q : Protection) (e : Epoch) : q.raised e.protection =
    if e = .closing then .throughClosing else if q = .none then .throughOpening else q := by
  cases e with
  | closing => exact q.raised_throughClosing
  | opening => exact q.raised_throughOpening
  | interim => exact q.raised_throughOpening

theorem State.attestScanComplete_of_due {s : State} {p : Nat} {e : Epoch} (hbusy : s.port.busy = some (.attest p e))
    (hholder : s.table.hold.holder = some .attestation) :
    s.attestScanComplete = ((({ s with
      table :=
        let table := s.table.protect e.protection (fun o => decide (o.parcel = p ∧ o.withdrawn = false))
        { table with hold := table.hold.release }
      attest := modifyAttest p e (fun r => { r with summary := some (s.scan p e), changedSince := false })
        s.attest } : State).give (.attest p e)).complete .done) := by
  have hrises : (fun o : OwnPoint => decide (o.parcel = p) && !o.withdrawn)
      = fun o => decide (o.parcel = p ∧ o.withdrawn = false) := by
    funext o
    simp
  simp only [State.attestScanComplete, hbusy, hholder, hrises]

theorem State.attestScanComplete_of_not_held {s : State} (h : s.table.hold.holder ≠ some .attestation) :
    s.attestScanComplete = s := by
  unfold State.attestScanComplete
  split
  · exact absurd ‹_› h
  · rfl

/-- Settles O25: the protection raise by `FigureTable.protect_eq`, and the wait for the hold. -/
theorem attestScanStoresAndProtects : Obligations.AttestScanStoresAndProtects := by
  refine ⟨fun s p e hbusy hholder => ?_, fun s hholder => ?_⟩
  · intro rises level
    show Host.Outcome.next s.attestScanComplete = _
    rw [State.attestScanComplete_of_due hbusy hholder, FigureTable.protect_eq]
    simp only [Protection.raised_epoch, Hold.release_eq]
    rfl
  · exact congrArg _ (State.attestScanComplete_of_not_held hholder)

/-! ### Comparison on receipt (R82, R83) -/

theorem AttestRecord.compared_keeps (slot : Nat) (equal : Bool) (r : AttestRecord) :
    (r.compared slot equal).parcel = r.parcel ∧ (r.compared slot equal).epoch = r.epoch
    ∧ (r.compared slot equal).summary = r.summary ∧ (r.compared slot equal).changedSince = false := by
  cases equal <;> exact ⟨rfl, rfl, rfl, rfl⟩

theorem slotAdd_getLsbD_of_lt {slot : Nat} (h : slot < 16) (set : BitVec 16) (i : Nat) :
    (slotAdd set slot).getLsbD i = if i = slot then true else set.getLsbD i := by
  rw [slotAdd_getLsbD]
  split
  · next heq => simp [heq, h]
  · next hne => simp [hne]

theorem slotDrop_getLsbD_eq_ite (set : BitVec 16) (slot i : Nat) :
    (slotDrop set slot).getLsbD i = if i = slot then false else set.getLsbD i := by
  rw [slotDrop_getLsbD]
  split
  · next heq => simp [heq]
  · next hne => simp [hne]

theorem AttestRecord.compared_matching {slot : Nat} (h : slot < 16) (equal : Bool) (r : AttestRecord) (i : Nat) :
    (r.compared slot equal).matching.getLsbD i = if i = slot then equal else r.matching.getLsbD i := by
  cases equal with
  | true => exact slotAdd_getLsbD_of_lt h r.matching i
  | false => exact slotDrop_getLsbD_eq_ite r.matching slot i

theorem AttestRecord.compared_diverging {slot : Nat} (h : slot < 16) (equal : Bool) (r : AttestRecord) (i : Nat) :
    (r.compared slot equal).diverging.getLsbD i = if i = slot then !equal else r.diverging.getLsbD i := by
  cases equal with
  | true => exact slotDrop_getLsbD_eq_ite r.diverging slot i
  | false => exact slotAdd_getLsbD_of_lt h r.diverging i

theorem State.comparisonComplete_of_due {s : State} {slot p : Nat} {e : Epoch} {theirs : Summary}
    (hmerging : s.intake.merging = some (.comparison slot p e theirs)) (hholder : s.table.hold.holder = some .intake) :
    let equal := decide (s.scan p e = theirs)
    s.comparisonComplete = ({ s with
      attest := modifyAttest p e (AttestRecord.compared slot equal) s.attest
      table := { s.table with hold := s.table.hold.release }
      intake := { s.intake with merging := none } } : State).raiseIf (!equal) .viewDiverge p := by
  intro equal
  simp only [State.comparisonComplete, hmerging, hholder, equal]

theorem State.raiseIf_eq (c : Bool) (k : NoticeKind) (j : Nat) (s : State) :
    s.raiseIf c k j = { s with notices := if c then s.notices.raise k j else s.notices } := by
  cases c <;> rfl

/-- Settles O26: the record by `AttestRecord.compared`'s two sets, bit by bit. -/
theorem comparisonPlacesTheStation : Obligations.ComparisonPlacesTheStation := by
  intro s slot p e theirs hmerging hholder hslot equal
  refine ⟨AttestRecord.compared slot equal, ?_, fun r => ?_⟩
  · show Host.Outcome.next s.comparisonComplete = _
    rw [State.comparisonComplete_of_due hmerging hholder, State.raiseIf_eq]
    simp only [Hold.release_eq, Bool.not_eq_true', ← Bool.not_eq_true, ite_not]
    rfl
  · obtain ⟨hparcel, hepoch, hsummary, hchanged⟩ := r.compared_keeps slot equal
    exact ⟨hparcel, hepoch, hsummary, hchanged, fun i =>
      ⟨AttestRecord.compared_matching hslot equal r i, AttestRecord.compared_diverging hslot equal r i⟩⟩

end Sys2Proof.Machine
end

section
/-! PROOFS. The line of the transfer link: levels, quiet, the bit time and the bits of a frame (05 sections 5.1, 5.3; 06
sections 6.3, 6.4). -/

namespace Sys2Proof.Machine

/-! ### The bits of a frame (R89) -/

theorem frameBit_start (frame : List Byte) (i : Nat) : frameBit frame (10 * i) = true := by
  simp [frameBit]

theorem frameBit_stop (frame : List Byte) (i : Nat) : frameBit frame (10 * i + 9) = false := by
  have hmod : (10 * i + 9) % 10 = 9 := by omega
  simp [frameBit, hmod]

theorem frameBit_data {frame : List Byte} {i : Nat} {b : Byte} (h : frame[i]? = some b) {k : Nat} (hk : k < 8) :
    frameBit frame (10 * i + 1 + k) = !b.getLsbD (7 - k) := by
  have hmod : (10 * i + 1 + k) % 10 = k + 1 := by omega
  have hdiv : (10 * i + 1 + k) / 10 = i := by omega
  have hbyte : frame.getD i 0 = b := by simp [List.getD_eq_getElem?_getD, h]
  unfold frameBit
  split
  · omega
  · omega
  · rw [hdiv, hbyte, hmod, Nat.add_sub_add_right 7 1 k]

/-! ### LDE and LTX (R89, log 39) -/

theorem Lau.lde_iff (l : Lau) :
    l.lde = true ↔ l.claiming = true ∨ l.line = .round .clashMark ∨ ∃ frame n, l.line = .round (.sending frame n) := by
  rcases hline : l.line with _ | _ | _ | phase
  case round => cases phase <;> simp [Lau.lde, hline]
  all_goals simp [Lau.lde, hline]

theorem Lau.ltx_of_claiming {l : Lau} (h : l.claiming = true) : l.ltx = true := by
  simp [Lau.ltx, h]

theorem Lau.ltx_of_clashMark {l : Lau} (h : l.line = .round .clashMark) : l.ltx = true := by
  simp [Lau.ltx, h]

theorem Lau.ltx_of_sending {l : Lau} {frame : List Byte} {n : Nat} (hclaiming : l.claiming = false)
    (hline : l.line = .round (.sending frame n)) : l.ltx = frameBit frame n := by
  simp [Lau.ltx, hclaiming, hline]

/-- While the transceiver is not driven LTX is recessive (log 39). -/
theorem Lau.ltx_of_released {l : Lau} (h : l.lde = false) : l.ltx = false := by
  obtain ⟨hclaiming, hmark, hsending⟩ : l.claiming = false ∧ l.line ≠ .round .clashMark
      ∧ ∀ frame n, l.line ≠ .round (.sending frame n) := by
    simpa [← Bool.not_eq_true, l.lde_iff] using h
  unfold Lau.ltx
  rw [hclaiming, Bool.false_or]
  split
  · exact absurd ‹_› (hsending _ _)
  · exact absurd ‹_› hmark
  · rfl

/-! ### A dominant level read (R89, R91, R95) -/

theorem exec_dominantLevelRead (startBit : Bool) (s : State) :
    exec (.dominantLevelRead startBit) s = .next (s.mapLau (Lau.dominantRead startBit)) := rfl

theorem Lau.dominantRead_of_off {l : Lau} (h : l.line = .off) (startBit : Bool) : l.dominantRead startBit = l := by
  simp [Lau.dominantRead, h]

theorem Lau.dominantRead_of_awaiting {l : Lau} (h : l.line = .round .awaiting) (startBit : Bool) :
    l.dominantRead startBit = { l with
      quietCount := 0, lineClear := false, line := .round (if startBit then .receiving else .awaiting) } := by
  simp [Lau.dominantRead, h]

theorem Lau.dominantRead_elsewhere {l : Lau} (hoff : l.line ≠ .off) (hawaiting : l.line ≠ .round .awaiting)
    (startBit : Bool) : l.dominantRead startBit = { l with quietCount := 0 } := by
  unfold Lau.dominantRead
  split
  · exact absurd ‹_› hoff
  · exact absurd ‹_› hawaiting
  all_goals rfl

/-! ### Quiet (R91) -/

theorem exec_quiet (s : State) : exec .quiet s = .next (s.mapLau Lau.quietReached) := rfl

theorem Lau.openWindow_eq_seeking (l : Lau) : l.openWindow = { l.seeking l.quietCount with line := .window } := rfl

theorem Lau.quietReached_of_due {l : Lau} (hline : l.line = .seek ∨ l.line = .round .awaiting) (hquiet : 48 ≤ l.quietCount) :
    l.quietReached = { l.seeking l.quietCount with line := .window } := by
  rw [← Lau.openWindow_eq_seeking]
  rcases hline with hline | hline <;> simp [Lau.quietReached, hline, Config.quietBits, hquiet]

theorem Lau.quietReached_of_not_due {l : Lau}
    (h : l.line ≠ .seek ∧ l.line ≠ .round .awaiting ∨ l.quietCount < 48) : l.quietReached = l := by
  have hbelow (hline : l.line = .seek ∨ l.line = .round .awaiting) : ¬ Config.quietBits ≤ l.quietCount := by
    simp only [Config.quietBits]
    rcases h with ⟨hseek, hawaiting⟩ | hquiet
    · exact absurd hline (not_or.2 ⟨hseek, hawaiting⟩)
    · omega
  unfold Lau.quietReached
  split
  · exact if_neg (hbelow (.inl ‹_›))
  · exact if_neg (hbelow (.inr ‹_›))
  all_goals rfl

/-! ### One bit time (R89, R91, R119, R129; logs 2, 14) -/

theorem lastStopBit_iff {frame : List Byte} {n : Nat} : lastStopBit frame n = true ↔ 10 * frame.length ≤ n + 1 :=
  decide_eq_true_iff

theorem Lau.tick_of_off {l : Lau} (h : l.line = .off) : l.tick = l := by
  simp [Lau.tick, h]

theorem Lau.tick_of_sending {l : Lau} {frame : List Byte} {n : Nat} (h : l.line = .round (.sending frame n)) :
    l.tick = { l with
      line := .round (.sending frame (if 10 * frame.length ≤ n + 1 then n else n + 1))
      quietCount := if frameBit frame n then 0 else min 48 (l.quietCount + 1) } := by
  simp only [Lau.tick, h, lastStopBit_iff]
  rfl

theorem Lau.tick_of_not_sending {l : Lau} (hoff : l.line ≠ .off) (hsending : ∀ frame n, l.line ≠ .round (.sending frame n)) :
    l.tick = { l with quietCount := nextQuiet l.ltx l.quietCount } := by
  unfold Lau.tick
  split
  · exact absurd ‹_› hoff
  · exact absurd ‹_› (hsending _ _)
  all_goals rfl

/-- A node that listens counts a recessive bit time, up to 48 (R91, log 14). -/
theorem Lau.tick_of_listening {l : Lau}
    (hline : l.line = .seek ∨ l.line = .window ∨ l.line = .round .awaiting ∨ l.line = .round .receiving)
    (hclaiming : l.claiming = false) : l.tick = { l with quietCount := min 48 (l.quietCount + 1) } := by
  have hreleased : l.lde = false := by
    rcases hline with h | h | h | h <;> simp [Lau.lde, h, hclaiming]
  rw [Lau.tick_of_not_sending (by rintro h; simp [h] at hline) (by rintro _ _ h; simp [h] at hline),
    Lau.ltx_of_released hreleased]
  rfl

/-- A node that drives its claim slot or a clash mark restarts the quiet count (R91). -/
theorem Lau.tick_of_driving {l : Lau}
    (h : l.line = .round .clashMark ∨ (l.line = .window ∧ l.claiming = true)) : l.tick = { l with quietCount := 0 } := by
  have hltx : l.ltx = true := h.elim Lau.ltx_of_clashMark fun h => Lau.ltx_of_claiming h.2
  rw [Lau.tick_of_not_sending (by rintro h'; simp [h'] at h) (by rintro _ _ h'; simp [h'] at h), hltx]
  rfl

/-- Settles O36: each event of the line by the state the LAU is in, a bit time by what the node drives, and a frame's bits
by their place in their byte. -/
theorem levelsQuietAndBitTimes : Obligations.LevelsQuietAndBitTimes := by
  refine ⟨fun b s => ⟨fun hoff => ?_, fun hoff hawaiting => ?_, fun hawaiting => ?_⟩,
    fun s => ⟨fun hline hquiet => ?_, fun h => ?_⟩, fun s hpending => ⟨s.lau.tick, step_idle hpending, ?_⟩,
    fun frame i b h => ⟨frameBit_start frame i, frameBit_stop frame i, fun k => frameBit_data h⟩,
    fun l => ⟨l.lde_iff, ?_, fun frame n => Lau.ltx_of_sending, Lau.ltx_of_released⟩⟩
  · rw [exec_dominantLevelRead, State.mapLau, Lau.dominantRead_of_off hoff]
  · rw [exec_dominantLevelRead, State.mapLau, Lau.dominantRead_elsewhere hoff hawaiting]
  · rw [exec_dominantLevelRead, State.mapLau, Lau.dominantRead_of_awaiting hawaiting]
  · rw [exec_quiet, State.mapLau, Lau.quietReached_of_due hline hquiet]
  · rw [exec_quiet, State.mapLau, Lau.quietReached_of_not_due h]
  · exact ⟨Lau.tick_of_off, Lau.tick_of_listening, Lau.tick_of_driving, fun frame n => Lau.tick_of_sending⟩
  · exact fun h => h.elim Lau.ltx_of_claiming Lau.ltx_of_clashMark

end Sys2Proof.Machine
end

section
/-! PROOFS. Claim windows and turns: the claim, the claim word, the turn pointer and the own turn (05 sections 5.3, 5.5). -/

namespace Sys2Proof.Machine

/-! ### The lowest claimant (R93, R94, R96) -/

theorem lowestFrom_of_empty (bound : Nat) : lowestFrom 0 bound = none := by
  simp [lowestFrom, slotIn]

theorem lowestFrom_of_isLowest {set : BitVec 16} {bound i : Nat} (h : IsLowest set bound i) :
    lowestFrom set bound = some i := by
  obtain ⟨hbound, hi, hbelow⟩ := h
  rcases lowestFrom_pointsTo set bound with ⟨j, heq, hj, hset, hlowest⟩ | ⟨-, hnone⟩
  · have hij : ¬ i < j := fun hlt => by simp [hlowest i hbound hlt] at hi
    have hji : ¬ j < i := fun hlt => by simp [hbelow j hj hlt] at hset
    rw [heq, Nat.le_antisymm (Nat.le_of_not_lt hij) (Nat.le_of_not_lt hji)]
  · simp [hnone i hbound] at hi

/-! ### The claim decision (R92) -/

theorem exec_claimDecision (s : State) :
    exec .claimDecision s = .next (s.mapLau (Lau.decideClaim (!s.pub.queue.isEmpty))) := rfl

theorem Lau.decideClaim_of_due {l : Lau} (hline : l.line = .window) (hdecided : l.decided = false) (hasJob : Bool) :
    l.decideClaim hasJob = { l with
      decided := true, ownClaim := !l.mute && hasJob, claiming := !l.mute && hasJob } :=
  if_pos ⟨hline, hdecided⟩

theorem Lau.decideClaim_of_not_due {l : Lau} (h : l.line ≠ .window ∨ l.decided = true) (hasJob : Bool) :
    l.decideClaim hasJob = l :=
  if_neg fun ⟨hline, hdecided⟩ => h.elim (absurd hline) (by simp [hdecided])

/-! ### Slots of a window (R92, log 15) -/

theorem exec_claimSlotSample (slot : BitVec 4) (dominant : Bool) (s : State) :
    exec (.claimSlotSample slot dominant) s = .next (s.mapLau (Lau.sampleSlot s.ownSlot slot.toNat dominant)) := rfl

/-- The claim word after a slot was read at a level. -/
def claimWordWith (word : BitVec 16) (slot : Nat) (level : Bool) : BitVec 16 := if level then slotAdd word slot else word

theorem claimWordWith_getLsbD (word : BitVec 16) {slot : Nat} (h : slot < 16) (level : Bool) (i : Nat) :
    (claimWordWith word slot level).getLsbD i = (word.getLsbD i || (decide (i = slot) && level)) := by
  cases level with
  | false => simp [claimWordWith]
  | true =>
    rw [claimWordWith, if_pos rfl, slotAdd_getLsbD_of_lt h, Bool.and_true]
    split
    · next heq => simp [heq]
    · next hne => simp [hne]

theorem Lau.sampleSlot_of_window {l : Lau} (h : l.line = .window) (own slot : Nat) (dominant : Bool) :
    let level := dominant || (l.claiming && decide (slot = own))
    l.sampleSlot own slot dominant = { l with
      claimWord := claimWordWith l.claimWord slot level, quietCount := if level then 0 else l.quietCount
      claiming := l.claiming && decide (slot ≠ own) } :=
  if_pos h

theorem Lau.sampleSlot_outside {l : Lau} (h : l.line ≠ .window) (own slot : Nat) (dominant : Bool) :
    l.sampleSlot own slot dominant = l :=
  if_neg h

/-! ### The end of a window (R93) -/

theorem exec_windowEnd (s : State) : exec .windowEnd s = .next (s.mapLau Lau.endWindow) := rfl

theorem Lau.endWindow_of_no_claim {l : Lau} (hline : l.line = .window) (hword : l.claimWord = 0) :
    l.endWindow = l.seeking 0 := by
  simp only [Lau.endWindow, hline, hword, lowestFrom_of_empty, if_true]
  rfl

theorem Lau.endWindow_of_claimant {l : Lau} {i : Nat} (hline : l.line = .window) (hi : IsLowest l.claimWord 0 i) :
    l.endWindow = { l with
      line := .round .awaiting, pointer := some i, quietCount := 0, lineClear := true, gapPassed := false
      claiming := false, sentInRound := false } := by
  simp only [Lau.endWindow, hline, lowestFrom_of_isLowest hi, if_true]
  rfl

theorem Lau.endWindow_outside {l : Lau} (h : l.line ≠ .window) : l.endWindow = l :=
  if_neg h

/-! ### The turn timeout (R94) -/

theorem exec_turnTimeout (s : State) : exec .turnTimeout s = .next (s.mapLau Lau.turnTimeout) := rfl

theorem Lau.turnTimeout_of_turn {l : Lau} {i : Nat} (hline : l.line = .round .awaiting) (hpointer : l.pointer = some i) :
    l.turnTimeout = { l with pointer := lowestFrom l.claimWord (i + 1), lineClear := true, gapPassed := false } := by
  simp only [Lau.turnTimeout, hline, hpointer, Lau.newTurn]

theorem Lau.turnTimeout_of_no_turn {l : Lau} (h : l.line ≠ .round .awaiting ∨ l.pointer = none) : l.turnTimeout = l := by
  unfold Lau.turnTimeout
  split
  · next hline hpointer => exact h.elim (absurd hline) (by simp [hpointer])
  · rfl

/-- Settles O37: the claim word bit by bit, and the pointer by `lowestFrom_pointsTo`. -/
theorem windowsAndTurns : Obligations.WindowsAndTurns := by
  refine ⟨fun s => ⟨fun hline hdecided => ⟨!s.lau.mute && !s.pub.queue.isEmpty, by simp, ?_⟩, fun h => ?_⟩,
    fun slot dominant s => ⟨fun hline => ⟨claimWordWith s.lau.claimWord slot.toNat _,
      claimWordWith_getLsbD s.lau.claimWord slot.isLt _, ?_⟩, fun hline => ?_⟩,
    fun s => ⟨fun hline hword => ?_, fun i hline hi => ?_, fun hline => ?_⟩,
    fun s i => ⟨fun hline hpointer => ⟨_, lowestFrom_pointsTo s.lau.claimWord (i + 1), ?_⟩, fun h => ?_⟩⟩
  · rw [exec_claimDecision, State.mapLau, Lau.decideClaim_of_due hline hdecided]
  · rw [exec_claimDecision, State.mapLau, Lau.decideClaim_of_not_due h]
  · rw [exec_claimSlotSample, State.mapLau, Lau.sampleSlot_of_window hline]
  · rw [exec_claimSlotSample, State.mapLau, Lau.sampleSlot_outside hline]
  · rw [exec_windowEnd, State.mapLau, Lau.endWindow_of_no_claim hline hword]
  · rw [exec_windowEnd, State.mapLau, Lau.endWindow_of_claimant hline hi]
  · rw [exec_windowEnd, State.mapLau, Lau.endWindow_outside hline]
  · rw [exec_turnTimeout, State.mapLau, Lau.turnTimeout_of_turn hline hpointer]
  · rw [exec_turnTimeout, State.mapLau, Lau.turnTimeout_of_no_turn h]

/-! ### The own turn (R94, R97, R126) -/

theorem exec_turnGap (s : State) : exec .turnGap s = .next s.turnGap := rfl

theorem Lau.ownTurn_iff (own : Nat) (l : Lau) :
    l.ownTurn own = true ↔ l.line = .round .awaiting ∧ l.pointer = some own ∧ l.ownClaim = true ∧ l.lineClear = true
      ∧ l.gapPassed = false ∧ l.sentInRound = false := by
  simp [Lau.ownTurn, and_assoc]

/-- The turn gap of this reference instant has passed (R94). -/
def State.passGap (s : State) : State := { s with lau := { s.lau with gapPassed := true } }

theorem State.mapLau_gapPassed (s : State) : s.mapLau (fun l => { l with gapPassed := true }) = s.passGap := rfl
@[simp] theorem State.passGap_mute (s : State) : s.passGap.lau.mute = s.lau.mute := rfl
@[simp] theorem State.passGap_pub (s : State) : s.passGap.pub = s.pub := rfl

/-- A frame is built from nothing that the turn gap marks. -/
@[simp] theorem State.passGap_frameOf (s : State) (sub : Subject) : s.passGap.frameOf sub = s.frameOf sub := rfl

theorem State.turnGap_elsewhere {s : State} (h : ¬ s.lau.ownTurn s.ownSlot = true) : s.turnGap = s :=
  if_neg h

section OwnTurn

variable {s : State} (hown : s.lau.ownTurn s.ownSlot = true)
include hown

theorem State.turnGap_of_nothing_to_send (h : s.lau.mute = true ∨ s.pub.queue = []) : s.turnGap = s.passGap := by
  simp only [State.turnGap, if_pos hown, State.mapLau_gapPassed]
  split
  · rfl
  · rfl
  · next hmute hqueue =>
    rw [State.passGap_mute] at hmute
    rw [State.passGap_pub] at hqueue
    simp [hmute, hqueue] at h

theorem State.turnGap_of_no_frame {j : Job} {rest : List Job} (hmute : s.lau.mute = false)
    (hqueue : s.pub.queue = j :: rest) (hframe : s.frameOf j.subject = none) :
    s.turnGap = { s.passGap with pub := { s.pub with queue := rest } } := by
  simp [State.turnGap, hown, State.mapLau_gapPassed, hmute, hqueue, hframe, Publisher.dropHead]

theorem State.turnGap_of_frame {j : Job} {rest : List Job} {f : Frame} (hmute : s.lau.mute = false)
    (hqueue : s.pub.queue = j :: rest) (hframe : s.frameOf j.subject = some f) :
    s.turnGap = { s.passGap with
      lau := { s.passGap.lau with line := .round (.sending f.bytes 0), sentInRound := true }
      pub := { s.pub with queue := { j with inFlight := true, resend := false } :: rest } } := by
  simp [State.turnGap, hown, State.mapLau_gapPassed, hmute, hqueue, hframe, Publisher.startHead]

end OwnTurn

/-- Settles O38: what the turn gap does by whether the turn is the own one, the node is MUTE, and the head job has a frame. -/
theorem ownTurnStartsTheHeadJob : Obligations.OwnTurnStartsTheHeadJob := by
  intro s own
  have hiff : s.lau.ownTurn s.ownSlot = true ↔ own := s.lau.ownTurn_iff s.ownSlot
  refine ⟨fun h => ?_, fun hown h => ?_, fun j rest hown hmute hqueue => ⟨fun hframe => ?_, fun f hframe => ?_⟩⟩
  · rw [exec_turnGap, State.turnGap_elsewhere (mt hiff.1 h)]
  · rw [exec_turnGap, State.turnGap_of_nothing_to_send (hiff.2 hown) h, State.passGap]
  · rw [exec_turnGap, State.turnGap_of_no_frame (hiff.2 hown) hmute hqueue hframe, State.passGap]
  · rw [exec_turnGap, State.turnGap_of_frame (hiff.2 hown) hmute hqueue hframe, State.passGap]

end Sys2Proof.Machine
end

section
/-! PROOFS. How sends and receptions end: completed, in a clash, valid or failed (05 sections 5.4 to 5.7; 06 sections 6.2,
6.4). -/

namespace Sys2Proof.Machine

/-! ### The job in flight at the end of a send (R127, R128) -/

theorem Publisher.completed_of_none_inFlight {p : Publisher} (h : ∀ j ∈ p.queue, j.inFlight = false) :
    p.completed = p := by
  have hnone : p.queue.find? (·.inFlight) = none := List.find?_eq_none.2 fun j hj => by simp [h j hj]
  simp only [Publisher.completed, hnone]

theorem Publisher.completed_of_head_inFlight {p : Publisher} {j : Job} {rest : List Job} (hqueue : p.queue = j :: rest)
    (hj : j.inFlight = true) (hrest : ∀ k ∈ rest, k.inFlight = false) :
    p.completed.queue = if j.resend then rest ++ [newJob j.subject] else rest := by
  have hkept : rest.filter (fun k => !k.inFlight) = rest := List.filter_eq_self.2 fun k hk => by simp [hrest k hk]
  simp only [Publisher.completed, hqueue, List.find?_cons_of_pos hj, List.filter_cons, hj, hkept]
  cases j.resend <;> simp

theorem Publisher.sent_eq (p : Publisher) :
    p.sent = { p with queue := p.completed.queue, sequence := p.sequence + 1 } := by
  unfold Publisher.sent Publisher.completed
  split <;> rfl

/-! ### A send that completes (R97) -/

theorem exec_sendComplete (stop : Bool) (s : State) : exec (.sendComplete stop) s = .next (s.sendComplete stop) := rfl

theorem State.sendComplete_of_last {s : State} {frame : List Byte} {n : Nat} (hline : s.lau.line = .round (.sending frame n))
    (hlast : 10 * frame.length ≤ n + 1) (stop : Bool) :
    s.sendComplete stop = { s with
      lau := { s.lau with
        line := .round .awaiting, pointer := lowestFrom s.lau.claimWord (s.ownSlot + 1), lineClear := true
        gapPassed := false, clashRun := 0, framesSent := min 4294967295 (s.lau.framesSent + 1)
        quietCount := if stop then 0 else trailingRecessive frame }
      pub := { s.pub with queue := s.pub.completed.queue, sequence := s.pub.sequence + 1 } } := by
  simp only [State.sendComplete, hline, if_pos (lastStopBit_iff.2 hlast), Publisher.sent_eq]
  rfl

theorem State.sendComplete_of_not_last {s : State} {frame : List Byte} {n : Nat}
    (hline : s.lau.line = .round (.sending frame n)) (hlast : n + 1 < 10 * frame.length) (stop : Bool) :
    s.sendComplete stop = s := by
  simp only [State.sendComplete, hline, lastStopBit_iff, if_neg (Nat.not_le_of_lt hlast)]

theorem State.sendComplete_of_not_sending {s : State} (h : ∀ frame n, s.lau.line ≠ .round (.sending frame n))
    (stop : Bool) : s.sendComplete stop = s := by
  unfold State.sendComplete
  split
  · exact absurd ‹_› (h _ _)
  · rfl

/-! ### A clash (R98) -/

theorem exec_clash (s : State) : exec .clash s = .next s.clash := rfl

/-- The bit being driven can clash: it is recessive and not the last stop bit (R97, R98). -/
theorem clashable_iff (frame : List Byte) (n : Nat) :
    ¬ (frameBit frame n || lastStopBit frame n) = true ↔ frameBit frame n = false ∧ n + 1 < 10 * frame.length := by
  rw [Bool.or_eq_true, lastStopBit_iff, not_or, Bool.not_eq_true, Nat.not_le]

theorem State.clash_of_due {s : State} {frame : List Byte} {n : Nat} (hline : s.lau.line = .round (.sending frame n))
    (hbit : frameBit frame n = false) (hlast : n + 1 < 10 * frame.length) :
    s.clash = { s with
      lau := { s.lau with line := .round .clashMark, quietCount := 0, clashRun := s.lau.clashRun + 1
                          clashes := min 4294967295 (s.lau.clashes + 1) }
      pub := { s.pub with queue := s.pub.queue.map (fun j =>
        if j.inFlight then { j with inFlight := false, resend := false } else j) } } := by
  simp only [State.clash, hline, if_neg ((clashable_iff frame n).2 ⟨hbit, hlast⟩)]
  rfl

theorem State.clash_of_not_due {s : State} {frame : List Byte} {n : Nat} (hline : s.lau.line = .round (.sending frame n))
    (h : frameBit frame n = true ∨ 10 * frame.length ≤ n + 1) : s.clash = s := by
  have hsafe : (frameBit frame n || lastStopBit frame n) = true := by rwa [Bool.or_eq_true, lastStopBit_iff]
  simp only [State.clash, hline, if_pos hsafe]

theorem State.clash_of_not_sending {s : State} (h : ∀ frame n, s.lau.line ≠ .round (.sending frame n)) : s.clash = s := by
  unfold State.clash
  split
  · exact absurd ‹_› (h _ _)
  · rfl

/-! ### The end of a clash mark (R98, log 26) -/

theorem exec_clashMarkEnd (s : State) : exec .clashMarkEnd s = .next s.clashMarkEnd := rfl

theorem State.clashMarkEnd_below_run {s : State} (hline : s.lau.line = .round .clashMark) (hrun : s.lau.clashRun < 16) :
    s.clashMarkEnd = { s with lau := s.lau.seeking 0 } :=
  (if_pos hline).trans (if_neg (Nat.not_le_of_lt hrun))

theorem State.clashMarkEnd_at_run {s : State} (hline : s.lau.line = .round .clashMark) (hrun : 16 ≤ s.lau.clashRun) :
    s.clashMarkEnd = { s with lau := { s.lau.seeking 0 with mute := true }, notices := s.notices.raise .linkFault 1 } :=
  (if_pos hline).trans (if_pos hrun)

theorem State.clashMarkEnd_elsewhere {s : State} (hline : s.lau.line ≠ .round .clashMark) : s.clashMarkEnd = s :=
  if_neg hline

/-- Settles O40: a completed send with the queue by whether the job is in flight, and a clash with its mark. -/
theorem sendsEndCompleteOrInAClash : Obligations.SendsEndCompleteOrInAClash := by
  refine ⟨fun stop s frame n hline hlast => ⟨_, s.pub.completed.queue, lowestFrom_pointsTo s.lau.claimWord (s.ownSlot + 1),
      fun hnone => ?_, fun j rest => Publisher.completed_of_head_inFlight, ?_⟩,
    fun s frame n hline hbit hlast => ?_, fun s hline hrun => ?_, fun s hline hrun => ?_, fun s hline => ?_,
    fun stop s frame n hline => ⟨fun hlast => ?_, fun h => ?_⟩, fun stop s h => ⟨?_, ?_⟩⟩
  · rw [Publisher.completed_of_none_inFlight hnone]
  · rw [exec_sendComplete, State.sendComplete_of_last hline hlast]
  · rw [exec_clash, State.clash_of_due hline hbit hlast]
  · rw [exec_clashMarkEnd, State.clashMarkEnd_below_run hline hrun]
  · rw [exec_clashMarkEnd, State.clashMarkEnd_at_run hline hrun]
  · rw [exec_clashMarkEnd, State.clashMarkEnd_elsewhere hline]
  · rw [exec_sendComplete, State.sendComplete_of_not_last hline hlast]
  · rw [exec_clash, State.clash_of_not_due hline h]
  · rw [exec_sendComplete, State.sendComplete_of_not_sending h]
  · rw [exec_clash, State.clash_of_not_sending h]

/-! ### The recessive bits at the end of a frame (R89, R91) -/

/-- The run of numbers at the front of a range that meet a condition: all of it meets it, and the number after it does not. -/
theorem takeWhile_range_spec (p : Nat → Bool) (n : Nat) :
    let m := ((List.range n).takeWhile p).length
    m ≤ n ∧ (∀ i < m, p i = true) ∧ (m < n → p m = false) := by
  have hm : ((List.range n).takeWhile p).length = (List.range n).findIdx (fun i => !p i) := by
    rw [List.takeWhile_eq_take_findIdx_not, List.length_take, Nat.min_eq_left List.findIdx_le_length]
  have hle : (List.range n).findIdx (fun i => !p i) ≤ n := by simpa using List.findIdx_le_length (xs := List.range n)
  rw [hm]
  refine ⟨hle, fun i hi => ?_, fun hlt => ?_⟩
  · simpa using List.not_of_lt_findIdx hi
  · have hfirst := List.findIdx_getElem (xs := List.range n) (p := fun i => !p i) (w := by simpa using hlt)
    simpa only [List.getElem_range, Bool.not_eq_true'] using hfirst

theorem trailingOnes_spec (b : Byte) :
    trailingOnes b ≤ 8 ∧ (∀ i < trailingOnes b, b.getLsbD i = true)
      ∧ (trailingOnes b < 8 → b.getLsbD (trailingOnes b) = false) :=
  takeWhile_range_spec (fun i => b.getLsbD i) 8

theorem trailingRecessive_of_getLast? {frame : List Byte} {b : Byte} (h : frame.getLast? = some b) :
    trailingRecessive frame = trailingOnes b + 1 := by
  simp only [trailingRecessive, h]

/-- A frame's bits from its last stop bit backwards: that stop bit, the last byte's bits from its least significant, and its
start bit. -/
theorem frameBit_of_getLast? {frame : List Byte} {b : Byte} (h : frame.getLast? = some b) :
    frameBit frame (10 * frame.length - 1) = false
    ∧ (∀ i < 8, frameBit frame (10 * frame.length - 1 - (i + 1)) = !b.getLsbD i)
    ∧ frameBit frame (10 * frame.length - 1 - 9) = true := by
  obtain ⟨m, hm⟩ : ∃ m, frame.length = m + 1 := Nat.exists_eq_succ_of_ne_zero fun hlen => by
    simp [List.length_eq_zero_iff.1 hlen] at h
  have hbyte : frame[m]? = some b := by rwa [List.getLast?_eq_getElem?, hm] at h
  rw [hm]
  refine ⟨?_, fun i hi => ?_, ?_⟩
  · exact frameBit_stop frame m
  · have hplace : 10 * (m + 1) - 1 - (i + 1) = 10 * m + 1 + (7 - i) := by omega
    rw [hplace, frameBit_data hbyte (by omega), Nat.sub_sub_self (by omega)]
  · exact frameBit_start frame m

theorem trailingRecessive_spec {frame : List Byte} (h : frame ≠ []) :
    let last := 10 * frame.length - 1
    let k := trailingRecessive frame
    1 ≤ k ∧ k ≤ 9 ∧ frameBit frame (last - k) = true ∧ ∀ j < k, frameBit frame (last - j) = false := by
  obtain ⟨b, hb⟩ : ∃ b, frame.getLast? = some b := ⟨_, List.getLast?_eq_some_getLast h⟩
  obtain ⟨hstop, hdata, hstart⟩ := frameBit_of_getLast? hb
  obtain ⟨hle, hones, hzero⟩ := trailingOnes_spec b
  intro last k
  have hk : k = trailingOnes b + 1 := trailingRecessive_of_getLast? hb
  rw [hk]
  refine ⟨by omega, by omega, ?_, fun j hj => ?_⟩
  · rcases Nat.lt_or_eq_of_le hle with hlt | heq
    · rw [hdata _ hlt, hzero hlt, Bool.not_false]
    · rw [heq]
      exact hstart
  · cases j with
    | zero => exact hstop
    | succ i => rw [hdata i (by omega), hones i (by omega), Bool.not_true]

/-! ### A failed reception (R95, R96, R99) -/

theorem Lau.receptionFailed_eq (l : Lau) : l.receptionFailed =
    ({ l.seeking l.quietCount with failureRun := if l.failureRun + 1 < 16 then l.failureRun + 1 else 0 },
      decide (16 ≤ l.failureRun + 1)) := by
  unfold Lau.receptionFailed
  by_cases h : 16 ≤ l.failureRun + 1
  · simp only [ge_iff_le, Config.faultRun, h, if_true, if_neg (Nat.not_lt_of_le h), decide_true]
    rfl
  · simp only [ge_iff_le, Config.faultRun, h, if_false, if_pos (Nat.lt_of_not_le h), decide_false]
    rfl

/-- The state after a reception that failed, with the quiet count the LAU goes on with in SEEK. -/
def State.failedReception (quiet : Nat) (s : State) : State := { s with
  lau := { s.lau.seeking quiet with failureRun := if s.lau.failureRun + 1 < 16 then s.lau.failureRun + 1 else 0 }
  intake := { s.intake with counters := { s.intake.counters with
    checkFailures := min 4294967295 (s.intake.counters.checkFailures + 1) } }
  notices := if s.lau.failureRun + 1 < 16 then s.notices else s.notices.raise .linkFault 0 }

theorem State.failReception_eq (s : State) : s.failReception = s.failedReception s.lau.quietCount := by
  simp only [State.failReception, State.count, Lau.receptionFailed_eq, State.raiseIf_eq, State.failedReception,
    decide_eq_true_eq, ← Nat.not_lt, ite_not]
  rfl

theorem exec_receptionFailed (s : State) :
    exec .receptionFailed s = .next (if s.lau.line = .round .receiving then s.failReception else s) := rfl

theorem exec_receptionFailed_elsewhere {s : State} (h : s.lau.line ≠ .round .receiving) :
    exec .receptionFailed s = .next s := by
  rw [exec_receptionFailed, if_neg h]

/-! ### A valid frame (R96, R99, R100, R110) -/

theorem FrameIntake.queued_of_room {i : FrameIntake} (h : i.queue.length < 16) (f : Frame) :
    i.queued f = { i with queue := i.queue ++ [f] } :=
  if_pos h

theorem FrameIntake.queued_of_full {i : FrameIntake} (h : 16 ≤ i.queue.length) (f : Frame) :
    i.queued f = { i with counters := { i.counters with overruns := min 4294967295 (i.counters.overruns + 1) } } :=
  if_neg (Nat.not_lt_of_le h)

/-! ### The bytes of a frame received (R91, R95, R97; log 8) -/

theorem exec_frameReceived (bytes : List Byte) (s : State) :
    exec (.frameReceived bytes) s = .next (s.frameReceived bytes) := rfl

theorem State.frameReceived_of_invalid {s : State} (hline : s.lau.line = .round .awaiting ∨ s.lau.line = .round .receiving)
    {bytes : List Byte} (h : Frame.ofBytes bytes = none) :
    s.frameReceived bytes = s.failedReception (trailingRecessive bytes) := by
  have hfailed : s.frameReceived bytes = (s.mapLau (Lau.heardLevels bytes)).failReception := by
    rcases hline with hline | hline <;> simp only [State.frameReceived, hline, h]
  rw [hfailed, State.failReception_eq]
  rfl

theorem State.frameReceived_of_valid {s : State} (hline : s.lau.line = .round .awaiting ∨ s.lau.line = .round .receiving)
    {bytes : List Byte} {f : Frame} (h : Frame.ofBytes bytes = some f) :
    s.frameReceived bytes = (s.mapLau (Lau.heardLevels bytes)).validFrame f := by
  rcases hline with hline | hline <;> simp only [State.frameReceived, hline, h]

/-- The LAU after a valid frame (R91, R96, R99). -/
def Lau.validEnded (bytes : List Byte) (f : Frame) (l : Lau) : Lau := { l with
  line := .round .awaiting, pointer := lowestFrom l.claimWord (f.source.toNat + 1), lineClear := true, gapPassed := false
  failureRun := 0, quietCount := trailingRecessive bytes }

theorem State.heard_validFrame_of_other {s : State} {f : Frame} (h : f.source.toNat ≠ s.ownSlot) (bytes : List Byte) :
    (s.mapLau (Lau.heardLevels bytes)).validFrame f =
      { s with lau := s.lau.validEnded bytes f, intake := s.intake.queued f } :=
  if_neg h

theorem State.heard_validFrame_of_own {s : State} {f : Frame} (h : f.source.toNat = s.ownSlot) (bytes : List Byte) :
    (s.mapLau (Lau.heardLevels bytes)).validFrame f =
      { s with lau := { s.lau.validEnded bytes f with mute := true }, notices := s.notices.raise .linkFault 2 } :=
  if_pos h

theorem State.frameReceived_of_listening {s : State} (hline : s.lau.line = .seek ∨ s.lau.line = .window) (bytes : List Byte) :
    s.frameReceived bytes = s.mapLau (Lau.heardLevels bytes) := by
  rcases hline with hline | hline <;> simp only [State.frameReceived, hline]

theorem State.frameReceived_of_off_or_driving {s : State}
    (hline : s.lau.line = .off ∨ s.lau.line = .round .clashMark ∨ ∃ frame n, s.lau.line = .round (.sending frame n))
    (bytes : List Byte) : s.frameReceived bytes = s := by
  rcases hline with hline | hline | ⟨frame, n, hline⟩ <;> simp only [State.frameReceived, hline]

/-- Settles O41: the end of a reception by the state the LAU is in and by what the bytes are. -/
theorem receptionsEndValidOrFailed : Obligations.ReceptionsEndValidOrFailed := by
  refine ⟨fun s hround => ⟨fun hline => ?_, fun hline => ?_, fun bytes hbytes => ?_, fun bytes f hbytes =>
      ⟨_, lowestFrom_pointsTo s.lau.claimWord (f.source.toNat + 1), fun hsource hroom => ?_, fun hsource hfull => ?_,
        fun hsource => ?_⟩⟩,
    fun bytes s hline => ⟨?_, ?_⟩, fun bytes s hline => ⟨?_, ?_⟩, fun frame => trailingRecessive_spec⟩
  · rw [exec_receptionFailed, if_pos hline, State.failReception_eq]
    rfl
  · exact exec_receptionFailed_elsewhere (by simp [hline])
  · rw [exec_frameReceived, State.frameReceived_of_invalid hround hbytes]
    rfl
  · rw [exec_frameReceived, State.frameReceived_of_valid hround hbytes, State.heard_validFrame_of_other hsource,
      FrameIntake.queued_of_room hroom]
    rfl
  · rw [exec_frameReceived, State.frameReceived_of_valid hround hbytes, State.heard_validFrame_of_other hsource,
      FrameIntake.queued_of_full hfull]
    rfl
  · rw [exec_frameReceived, State.frameReceived_of_valid hround hbytes, State.heard_validFrame_of_own hsource]
    rfl
  · rw [exec_frameReceived, State.frameReceived_of_listening hline, State.mapLau, Lau.heardLevels]
  · exact exec_receptionFailed_elsewhere (by rintro h; simp [h] at hline)
  · rw [exec_frameReceived, State.frameReceived_of_off_or_driving hline]
  · exact exec_receptionFailed_elsewhere (by rintro h; simp [h] at hline)

end Sys2Proof.Machine
end

section
/-! PROOFS. LINK RESET (05 section 5.7; 01 section 1.6; 06 sections 6.3, 6.4; 02 section 2.2). -/

namespace Sys2Proof.Machine

/-! ### The blocks of a LINK RESET (R21, R103, R123, R130) -/

theorem exec_linkReset (s : State) : exec .linkReset s = .next (s.takeRequest State.linkReset) := rfl

/-- Of the two requesters the Station Port's service alone goes on (R21). -/
theorem Stu.withdrawIntake_eq (u : Stu) : u.withdrawIntake = { u with
    intakeWaiting := none, inService := u.inService.filter (fun v => decide (v.requester = .port)) } := by
  have hport : (fun v : StuService => decide (v.requester ≠ .intake)) = fun v => decide (v.requester = .port) := by
    funext v
    cases v.requester <;> rfl
  rw [Stu.withdrawIntake, Stu.release, hport]

/-- The recompute requests are given once, if any station changed state (R64, R123). -/
theorem State.peersUnheard_eq (s : State) :
    let peers := s.peers.map PeerRecord.unheard
    s.peersUnheard = { s with
      peers := peers
      balance := if ∃ r ∈ s.peers, r.state ≠ .unheard then
          s.sheetParcels.foldl (BalanceEngine.request
            { own := s.table.own, entries := s.table.entries, peers := peers, node := s.sheet.node }) s.balance
        else s.balance } := by
  have hmoved : s.peers.any (fun r => decide (r.state ≠ .unheard)) = true ↔ ∃ r ∈ s.peers, r.state ≠ .unheard := by
    simp
  simp only [State.peersUnheard, hmoved]
  split <;> rfl

theorem State.refilled_eq (s : State) : s.refilled = [newJob .presence]
    ++ (s.table.own.filter OwnPoint.eligible).map (fun p => newJob (.point p.number))
    ++ (s.attest.filter (fun r => r.summary.isSome)).map (fun r => newJob (.attest r.parcel r.epoch)) := by
  simp [State.refilled, State.eligible, Function.comp_def]

/-! ### The step (R103, R104, log 19) -/

/-- A frame whose last stop bit has begun counts as sent; the queue is refilled afterwards (R103). -/
theorem State.linkResetStep_eq (s : State) :
    let sent := s.lau.lastStopBegun
    s.linkResetStep = { s with
      lau := { s.lau.seeking 0 with
        mute := false, clashRun := 0, failureRun := 0
        framesSent := if sent then min 4294967295 (s.lau.framesSent + 1) else s.lau.framesSent }
      intake := FrameIntake.reset
      table := { s.table with hold := Hold.clear }
      stu := s.stu.withdrawIntake
      peers := s.peersUnheard.peers
      balance := s.peersUnheard.balance
      pub := { s.pub with
        sequence := if sent then s.pub.sequence + 1 else s.pub.sequence
        queue := s.refilled } } := by
  cases hsent : s.lau.lastStopBegun
  all_goals
    simp only [State.linkResetStep, hsent, State.peersUnheard_eq, Publisher.sent_eq]
    rfl

theorem State.linkReset_of_running {s : State} (h : s.running = true) :
    s.linkReset = ((s.accept .linkReset).linkResetStep).complete .done :=
  if_pos h

theorem State.linkReset_of_not_running {s : State} (h : s.running = false) : s.linkReset = s.answerCode .state :=
  if_neg (by simp [h])

/-- Settles O42: the refusal before START, and the step block by block. -/
theorem linkResetIsOneStep : Obligations.LinkResetIsOneStep := by
  refine ⟨fun s hidle hactive hfinal => ?_, fun s hidle hrunning => ?_⟩
  · rw [exec_linkReset, State.takeRequest_idle hidle,
      State.linkReset_of_not_running ((State.newSelection_running s).trans (s.not_running_iff.2 ⟨hactive, hfinal⟩)),
      State.newSelection_answerCode]
  · intro sent peers job
    rw [exec_linkReset, State.takeRequest_idle hidle,
      State.linkReset_of_running ((State.newSelection_running s).trans (s.running_iff.2 hrunning)),
      State.newSelection_accept, State.linkResetStep_eq, State.peersUnheard_eq, Stu.withdrawIntake_eq, State.refilled_eq]
    rfl

end Sys2Proof.Machine
end

section
/-! PROOFS. The transmit job queue holds each subject once (06 section 6.4). -/

namespace Sys2Proof.Machine

theorem allSubjects_length : allSubjects.length = 41 := by decide

/-- Different subjects, each one of those there are, are at most 41 (R124). -/
theorem TransmitInv.queue_length_le {s : State} (h : TransmitInv s) : s.pub.queue.length ≤ 41 := by
  obtain ⟨-, -, -, -, -, -, -, hnodup, hsubjects⟩ := h
  have hsubset : s.pub.queue.map (·.subject) ⊆ allSubjects := by
    intro sub hsub
    obtain ⟨j, hj, rfl⟩ := List.mem_map.1 hsub
    exact hsubjects j hj
  simpa [allSubjects_length] using (hnodup.subperm hsubset).length_le

/-- Settles O55: each step is a change of the roll that keeps the queue's subjects apart, and there are 41 subjects. -/
theorem transmitQueueHoldsEachSubjectOnce : Obligations.TransmitQueueHoldsEachSubjectOnce :=
  ⟨fun _ _ h hstep => transmitInv_step hstep h, fun _ h => h.queue_length_le⟩

end Sys2Proof.Machine
end

section
/-! PROOFS. Taking a frame from the receive queue: source and form check, and the Peer Registry's judgement of a PRESENCE from
an UNHEARD or FOREIGN station and of one that does not match (06 sections 6.2, 6.3). -/

namespace Sys2Proof.Machine

/-! ### The steps of R111 -/

theorem exec_intakeTakeFrame (s : State) : exec .intakeTakeFrame s = .next s.takeFrame := rfl

/-- The state with a frame taken from its receive queue. -/
def State.dequeued (rest : List Frame) (s : State) : State := { s with intake := { s.intake with queue := rest } }

theorem Body.dequeued_agrees (rest : List Frame) (s : State) (slot : Nat) (b : Body) :
    b.agrees (s.dequeued rest) slot ↔ b.agrees s slot := by
  cases b <;> rfl

theorem State.takeFrame_of_ready {s : State} {f : Frame} {rest : List Frame} (h : s.intakeReady f rest) :
    s.takeFrame = (s.dequeued rest).handleFrame f := by
  obtain ⟨hqueue, hhold, hmerging⟩ := h
  have hready : s.table.hold.isClear = true ∧ s.intake.merging = none := ⟨(Hold.isClear_iff _).2 hhold, hmerging⟩
  simp only [State.takeFrame, hqueue, if_pos hready]
  rfl

theorem State.takeFrame_of_not_ready {s : State}
    (h : s.intake.queue = [] ∨ s.table.hold.holder ≠ none ∨ s.table.hold.waiting = true ∨ s.intake.merging ≠ none) :
    s.takeFrame = s := by
  unfold State.takeFrame
  split
  · rfl
  · next hqueue =>
    refine if_neg fun ⟨hclear, hmerging⟩ => ?_
    rw [Hold.isClear_iff] at hclear
    simp_all

theorem State.handleFrame_of_unlisted {s : State} {f : Frame} (h : s.rosterRole f.source.toNat = .empty) :
    s.handleFrame f = s.count (fun c => { c with unlisted := satAdd c.unlisted 1 }) :=
  if_pos h

theorem State.handleFrame_of_bad_form {s : State} {f : Frame} (hlisted : s.rosterRole f.source.toNat ≠ .empty)
    (hform : f.form = none) : s.handleFrame f = s.countMalformed := by
  simp only [State.handleFrame, if_neg hlisted, hform]

theorem State.handleFrame_of_judged {s t : State} {f : Frame} {b : Body} {pass : Bool}
    (hlisted : s.rosterRole f.source.toNat ≠ .empty) (hform : f.form = some b) (hjudge : s.judge f b = (t, pass)) :
    s.handleFrame f = if pass then t.route f.source.toNat b else t := by
  simp only [State.handleFrame, if_neg hlisted, hform, hjudge]
  cases pass <;> rfl

theorem State.takeFrame_of_judged {s t : State} {f : Frame} {rest : List Frame} {b : Body} {pass : Bool}
    (hready : s.intakeReady f rest) (hlisted : s.rosterRole f.source.toNat ≠ .empty) (hform : f.form = some b)
    (hjudge : (s.dequeued rest).judge f b = (t, pass)) :
    s.takeFrame = if pass then t.route f.source.toNat b else t := by
  rw [State.takeFrame_of_ready hready]
  exact State.handleFrame_of_judged hlisted hform hjudge

/-! ### The judgement of a frame, by whether it agrees (R116, R121) -/

theorem State.presenceMatches_iff {s : State} {slot : Nat} {p : PresenceBody} :
    s.presenceMatches slot p = true ↔ (Body.presence p).agrees s slot := by
  refine ⟨fun h => ?_, State.presenceMatches_of_agrees⟩
  simpa [State.presenceMatches, Body.agrees, Option.any_eq_true] using h

theorem State.judge_of_agrees {s : State} {f : Frame} {b : Body} {j : Judgement} (h : b.agrees s f.source.toNat)
    (hjudge : (s.peer f.source.toNat).judge f b = some j) : s.judge f b = (s.acceptFrame f b j, true) := by
  cases b with
  | presence p => simp only [State.judge, if_pos (State.presenceMatches_iff.2 h), hjudge]
  | figure | withdraw | attest => simp only [State.judge, hjudge]

theorem State.judge_of_mismatch {s : State} {f : Frame} {p : PresenceBody}
    (h : ¬ (Body.presence p).agrees s f.source.toNat) :
    s.judge f (.presence p) = (s.mismatched f.source.toNat p, false) := by
  have hno : ¬ s.presenceMatches f.source.toNat p = true := fun hm => h (State.presenceMatches_iff.1 hm)
  simp only [State.judge, if_neg hno]

/-- Frames other than PRESENCE are discarded from a station that is not heard or FOREIGN (R116, R121). -/
theorem State.judge_of_silent {s : State} {f : Frame} {b : Body}
    (hstate : (s.peer f.source.toNat).state = .unheard ∨ (s.peer f.source.toNat).state = .foreign)
    (hbody : ∀ p, b ≠ .presence p) : s.judge f b = (s.discardFrame f.source.toNat, false) := by
  have hjudge : b.isPresence = false → (s.peer f.source.toNat).judge f b = none := fun hother => by
    rcases hstate with h | h <;> simp [PeerRecord.judge, h, hother]
  cases b with
  | presence p => exact absurd rfl (hbody p)
  | figure | withdraw | attest => simp only [State.judge, hjudge rfl]

/-- The judgement of a PRESENCE from a station that is not heard or FOREIGN: no gap, and a removal only where an UNHEARD
station's record keeps another generation (R116, R121). -/
theorem PeerRecord.judge_presence {f : Frame} {p : PresenceBody} {r : PeerRecord}
    (h : r.state = .foreign ∨ r.state = .unheard) :
    r.judge f (.presence p) =
      some { drop := decide (r.state = .unheard ∧ r.generation ≠ none ∧ r.generation ≠ some f.generation) } := by
  rcases h with h | h
  · simp [PeerRecord.judge, h, Body.isPresence]
  · cases hgen : r.generation <;> simp [PeerRecord.judge, h, Body.isPresence, hgen]

/-! ### The record change's requests (R64) -/

theorem foldl_request_parcels (now : Reading) (ps : List Nat) (b : BalanceEngine) :
    (ps.foldl (BalanceEngine.request now) b).records.map (·.parcel) = b.records.map (·.parcel) := by
  induction ps generalizing b with
  | nil => rfl
  | cons p ps ih => rw [List.foldl_cons, ih, BalanceEngine.request_parcels]

theorem State.stationRemoved_parcels (s : State) (slot : Nat) :
    (s.stationRemoved slot).balance.records.map (·.parcel) = s.balance.records.map (·.parcel) :=
  foldl_request_parcels ..

theorem State.requestingAll_of {P : Prop} [Decidable P] (h : P) (s : State) (peers : List PeerRecord) :
    s.requestingAll peers P = (s.balance.records.map (·.parcel)).foldl (BalanceEngine.request
      { own := s.table.own, entries := s.table.entries, peers := peers, node := s.sheet.node }) s.balance :=
  if_pos h

theorem State.setPeer_of_key_ne {s : State} {slot : Nat} {r : PeerRecord} (h : (s.peer slot).balanceKey ≠ r.balanceKey) :
    s.setPeer slot r = { s with
      peers := s.peers.set slot r
      balance := (s.balance.records.map (·.parcel)).foldl (BalanceEngine.request
        { own := s.table.own, entries := s.table.entries, peers := s.peers.set slot r, node := s.sheet.node }) s.balance } := by
  rcases s.setPeer_cases slot r with ⟨heq, -⟩ | ⟨-, hset⟩
  · exact absurd heq h
  · exact hset

theorem State.setPeer_of_key_eq {s : State} {slot : Nat} {r : PeerRecord} (h : (s.peer slot).balanceKey = r.balanceKey) :
    s.setPeer slot r = { s with peers := s.peers.set slot r } := by
  rcases s.setPeer_cases slot r with ⟨-, hset⟩ | ⟨hne, -⟩
  · exact hset
  · exact absurd h hne

/-! ### A PRESENCE that matches, from an UNHEARD or FOREIGN station (R116, R119, R121, R122) -/

/-- Settles O44: the registry accepts the frame without gap judgement, and the station's state has changed. -/
theorem matchingPresenceMakesTheStationPresent : Obligations.MatchingPresenceMakesTheStationPresent := by
  intro s f rest p h slot r hready hlisted hform hheader hrole hnumber hrevision hstate drop c peers
  have hagrees : (Body.presence p).agrees (s.dequeued rest) slot := ⟨hrole, h, hheader, hnumber.symm, hrevision.symm⟩
  have hjudge : (s.dequeued rest).judge f (.presence p) =
      ((s.dequeued rest).acceptFrame f (.presence p) { drop := drop }, true) :=
    State.judge_of_agrees hagrees (PeerRecord.judge_presence hstate)
  have hsilence : (s.dequeued rest).silenceBits = h.silence * 250000 :=
    congrArg (fun x => (x.map (·.silence)).getD 0 * 250000) hheader
  have hafter : r.accepting f (.presence p) (h.silence * 250000) 0 drop = { r with
      state := .present, generation := some f.generation, baseline := some f.sequence
      timer := some (h.silence * 250000), accepted := min 4294967295 (r.accepted + 1)
      heard := some { role := p.role, number := p.number, revision := p.revision }
      declaredCount := p.count, declaredMask := p.mask, finalised := p.final, mismatch := r.mismatch && !drop } := rfl
  have hmoved : r.keyMoved (r.accepting f (.presence p) (h.silence * 250000) 0 drop) drop :=
    .inl (by rw [hafter]; rcases hstate with h | h <;> simp [h])
  have hheard : (s.dequeued rest).heardFrom slot { drop := drop } = { c with intake := { s.intake with queue := rest } } := by
    unfold State.heardFrom c
    cases drop <;> rfl
  have hparcels : c.balance.records.map (·.parcel) = s.balance.records.map (·.parcel) := by
    unfold c
    split
    · exact s.stationRemoved_parcels slot
    · rfl
  have hkept : c.table.own = s.table.own ∧ c.sheet = s.sheet := by
    unfold c
    split <;> exact ⟨rfl, rfl⟩
  rw [exec_intakeTakeFrame, State.takeFrame_of_judged hready hlisted hform hjudge, if_pos rfl, State.acceptFrame_eq, hsilence,
    hheard]
  refine congrArg _ (State.eq_of_fields rfl rfl rfl ((State.requestingAll_of hmoved ..).trans ?_) rfl rfl rfl rfl rfl rfl rfl
    rfl rfl rfl)
  obtain ⟨hown, hsheet⟩ := hkept
  dsimp only
  rw [hparcels, hown, hsheet]
  rfl

/-! ### A PRESENCE that does not match (R121) -/

theorem State.mismatched_of_foreign {s : State} {slot : Nat} (h : (s.peer slot).state = .foreign) (p : PresenceBody) :
    s.mismatched slot p = { s with
      intake := { s.intake with counters := { s.intake.counters with
        foreign := min 4294967295 (s.intake.counters.foreign + 1) } }
      peers := s.peers.set slot { s.peer slot with heard := some p.heard } } := by
  generalize hcounted : s.count (fun c => { c with foreign := satAdd c.foreign 1 }) = counted
  have hforeign : (counted.peer slot).state = .foreign := hcounted ▸ h
  rw [State.mismatched, hcounted]
  dsimp only
  rw [if_pos hforeign, State.updatePeer,
    State.setPeer_of_key_eq (r := { counted.peer slot with heard := some p.heard }) rfl, ← hcounted]
  rfl

/-- BECOME_FOREIGN: the removal, then the record with its requests, then SHEET_MISMATCH (R121, log 38). -/
theorem State.mismatched_of_not_foreign {s : State} {slot : Nat} (h : (s.peer slot).state ≠ .foreign) (p : PresenceBody) :
    let removed := s.stationRemoved slot
    let peers := s.peers.set slot { s.peer slot with
      state := .foreign, heard := some p.heard, timer := none, mismatch := false, finalised := false }
    s.mismatched slot p = { removed with
      intake := { s.intake with counters := { s.intake.counters with
        foreign := min 4294967295 (s.intake.counters.foreign + 1) } }
      peers := peers
      notices := removed.notices.raise .sheetMismatch slot
      balance := (s.balance.records.map (·.parcel)).foldl (BalanceEngine.request
        { own := s.table.own, entries := removed.table.entries, peers := peers, node := s.sheet.node }) removed.balance } := by
  intro removed peers
  generalize hcounted : s.count (fun c => { c with foreign := satAdd c.foreign 1 }) = counted
  have hforeign : ¬ (counted.peer slot).state = .foreign := hcounted ▸ h
  have hpeer : (counted.stationRemoved slot).peer slot = s.peer slot := by rw [← hcounted]; rfl
  have hkey : ((counted.stationRemoved slot).peer slot).balanceKey ≠
      ({ (s.peer slot).flagsCleared with state := .foreign, heard := some p.heard, timer := none } : PeerRecord).balanceKey := by
    rw [hpeer]
    exact fun heq => h (congrArg Prod.fst heq)
  rw [State.mismatched, hcounted]
  dsimp only
  rw [if_neg hforeign, State.dropStation_eq, State.updatePeer, hpeer, State.setPeer_of_key_ne hkey,
    State.stationRemoved_parcels, ← hcounted]
  rfl

/-- Settles O45: the registry's record of a mismatch, by whether the station is FOREIGN already. -/
theorem mismatchMakesTheStationForeign : Obligations.MismatchMakesTheStationForeign := by
  intro s f rest p slot r heard intake hready hlisted hform hmismatch
  have hjudge : (s.dequeued rest).judge f (.presence p) = ((s.dequeued rest).mismatched slot p, false) :=
    State.judge_of_mismatch ((Body.dequeued_agrees ..).not.2 hmismatch)
  have hexec : exec .intakeTakeFrame s = .next ((s.dequeued rest).mismatched slot p) :=
    congrArg _ (State.takeFrame_of_judged hready hlisted hform hjudge)
  rw [hexec]
  refine ⟨fun hforeign => ?_, fun hother => ?_⟩
  · rw [State.mismatched_of_foreign (s := s.dequeued rest) hforeign]
    rfl
  · intro c peers
    rw [State.mismatched_of_not_foreign (s := s.dequeued rest) hother]
    rfl

/-! ### Frames that are discarded (R111, R112, R114, R116, R121) -/

theorem State.discardFrame_of_unheard {s : State} {slot : Nat} (h : (s.peer slot).state = .unheard) :
    s.discardFrame slot = s.count (fun c => { c with notPresent := satAdd c.notPresent 1 }) :=
  if_neg (by simp [h])

theorem State.discardFrame_of_foreign {s : State} {slot : Nat} (h : (s.peer slot).state = .foreign) :
    s.discardFrame slot = s.count (fun c => { c with foreign := satAdd c.foreign 1 }) :=
  if_pos h

/-! ### The form check (R112) -/

theorem Role.ofCode_good_iff (n : Nat) : (∃ role, Role.ofCode n = some role ∧ role ≠ .empty) ↔ 1 ≤ n ∧ n ≤ 4 := by
  constructor
  · rintro ⟨role, hrole, hne⟩
    unfold Role.ofCode at hrole
    split at hrole <;> simp_all
  · rintro ⟨hlow, hhigh⟩
    interval_cases n
    all_goals exact ⟨_, rfl, by decide⟩

theorem parsePresence_isSome_iff (b : List Byte) : (parsePresence b).isSome = true ↔
    b.length = 10 ∧ 1 ≤ fieldAt b 0 1 ∧ fieldAt b 0 1 ≤ 4 ∧ (fieldAt b 1 1 = 3 ∨ fieldAt b 1 1 = 4)
      ∧ fieldAt b 8 1 ≤ 24 := by
  have hgood := Role.ofCode_good_iff (fieldAt b 0 1)
  simp only [parsePresence, fieldAt] at *
  by_cases hlength : b.length = 10
  · cases hrole : Role.ofCode (beNat (slice b 0 1)) with
    | none => simp_all
    | some role =>
      have hrange : role ≠ .empty ↔ 1 ≤ beNat (slice b 0 1) ∧ beNat (slice b 0 1) ≤ 4 := by simpa [hrole] using hgood
      cases role <;> simp_all
  · simp [hlength]

theorem maskEpochs_length (mask : Nat) : (maskEpochs mask).length = (if mask.testBit 0 then 1 else 0)
    + (if mask.testBit 1 then 1 else 0) + (if mask.testBit 2 then 1 else 0) := by
  simp only [maskEpochs, Epoch.inOrder, Epoch.code, List.filter_cons, List.filter_nil]
  cases mask.testBit 0 <;> cases mask.testBit 1 <;> cases mask.testBit 2 <;> rfl

theorem parseFigure_isSome_iff (b : List Byte) : (parseFigure b).isSome = true ↔
    7 ≤ b.length ∧ fieldAt b 3 1 < 8 ∧ b.length = 7 + 18 * (maskEpochs (fieldAt b 3 1)).length := by
  simp [parseFigure, fieldAt]

theorem parseWithdraw_isSome_iff (b : List Byte) : (parseWithdraw b).isSome = true ↔ b.length = 3 := by
  simp [parseWithdraw]

theorem parseAttest_isSome_iff (b : List Byte) : (parseAttest b).isSome = true ↔ b.length = 10 := by
  simp [parseAttest]

/-- Each kind of frame has its own form; a kind that is not 1 to 4 has none (section 10.1). -/
theorem Frame.form_isSome_iff (f : Frame) : f.form.isSome = true ↔
    (f.kind = 1 ∧ (parsePresence f.body).isSome = true) ∨ (f.kind = 2 ∧ (parseFigure f.body).isSome = true)
      ∨ (f.kind = 3 ∧ (parseWithdraw f.body).isSome = true) ∨ (f.kind = 4 ∧ (parseAttest f.body).isSome = true) := by
  have hkind (k : BitVec 4) : f.kind = k ↔ f.kind.toNat = k.toNat := BitVec.toNat_inj.symm
  simp only [hkind]
  unfold Frame.form
  split
  · next h => simp [h]
  · next h => simp [h]
  · next h => simp [h]
  · next h => simp [h]
  · next h1 h2 h3 h4 =>
    refine iff_of_false (by simp) ?_
    rintro (⟨h, -⟩ | ⟨h, -⟩ | ⟨h, -⟩ | ⟨h, -⟩)
    exacts [h1 h, h2 h, h3 h, h4 h]

/-- Settles O43: the guard, then the discards in the order of the checks, then the form of each kind of body. -/
theorem framesDiscardedByTheirSourceOrForm : Obligations.FramesDiscardedByTheirSourceOrForm := by
  refine ⟨fun s h => congrArg _ (State.takeFrame_of_not_ready h), fun s f rest hready => ?_, fun f => ?_⟩
  · intro discarded c up
    rw [exec_intakeTakeFrame, State.takeFrame_of_ready hready]
    refine ⟨fun hempty => ?_, fun hlisted hform => ?_, fun b hlisted hform hbody => ⟨fun hstate => ?_, fun hstate => ?_⟩⟩
    · rw [State.handleFrame_of_unlisted (s := s.dequeued rest) hempty]
      rfl
    · rw [State.handleFrame_of_bad_form (s := s.dequeued rest) hlisted hform]
      rfl
    · rw [State.handleFrame_of_judged (s := s.dequeued rest) hlisted hform (State.judge_of_silent (.inl hstate) hbody),
        State.discardFrame_of_unheard (s := s.dequeued rest) hstate]
      rfl
    · rw [State.handleFrame_of_judged (s := s.dequeued rest) hlisted hform (State.judge_of_silent (.inr hstate) hbody),
        State.discardFrame_of_foreign (s := s.dequeued rest) hstate]
      rfl
  · intro field bits
    rw [Frame.form_isSome_iff, parsePresence_isSome_iff, parseFigure_isSome_iff, parseWithdraw_isSome_iff,
      parseAttest_isSome_iff, maskEpochs_length]

end Sys2Proof.Machine
end

section
/-! PROOFS. Frames that the Peer Registry accepts of a PRESENT or ABSENT station: what the content check may still change, the gap
against the baseline, new generations and returns, and WITHDRAW and ATTEST frames (06 sections 6.2, 6.3; 02 section 2.5). -/

namespace Sys2Proof.Machine

/-! ### The removal of one entry (R42) -/

theorem filter_parcelNumbers_eq {p : Nat} (hlow : 1 ≤ p) (hhigh : p ≤ 8) :
    parcelNumbers.filter (fun q => decide (p = q)) = [p] := by
  interval_cases p <;> rfl

/-- The removal of one entry is one change, with one request, WATCH for its key and the marks of what it held. -/
theorem State.removeEntries_singleton {e : PeerEntry} (hlow : 1 ≤ e.parcel) (hhigh : e.parcel ≤ 8) (s : State) :
    let entries := s.table.entries.filter (fun x => decide (¬ (x.slot = e.slot ∧ x.point = e.point)))
    s.removeEntries [e] = { s with
      table := { s.table with changeCount := s.table.changeCount + 1, entries := entries }
      notices := s.notices.raiseWatch { slot := e.slot, point := e.point }
      attest := s.attest.map (fun r => if r.parcel = e.parcel ∧ r.epoch ≠ .interim ∧ (e.slots.get r.epoch).isSome = true then
        { r with changedSince := true } else r)
      balance := s.balance.request
        { own := s.table.own, entries := entries, peers := s.peers, node := s.sheet.node } e.parcel } := by
  intro entries
  have hentries : s.table.entries.filter (fun x => !([e].any (fun g => isEntry g.slot g.point x))) = entries :=
    List.filter_congr fun x _ => by simp [isEntry]
  have hparcels : parcelNumbers.filter (fun p => [e].any (fun x => decide (x.parcel = p))) = [e.parcel] := by
    simpa using filter_parcelNumbers_eq hlow hhigh
  have hattest : markRemoved [e] s.attest = s.attest.map (fun r =>
      if r.parcel = e.parcel ∧ r.epoch ≠ .interim ∧ (e.slots.get r.epoch).isSome = true then
        { r with changedSince := true } else r) := by
    refine List.map_congr_left fun r _ => ?_
    simp only [List.any_cons, List.any_nil, Bool.or_false, decide_eq_true_eq, mem_attestedEpochs_iff]
    exact if_congr ⟨fun ⟨⟨hp, hs⟩, he⟩ => ⟨hp.symm, he, hs⟩, fun ⟨hp, he, hs⟩ => ⟨⟨hp.symm, hs⟩, he⟩⟩ rfl rfl
  rw [State.removeEntries_of_ne_nil (by simp), hentries, hparcels, hattest]
  rfl

/-! ### Notices that stay pending (R144) -/

/-- A notice of a kind and subject is pending. -/
def NoticeUnit.Pends (k : NoticeKind) (j : Nat) (n : NoticeUnit) : Prop := ∃ x ∈ n.pending, x.kind = k ∧ x.subject = j

theorem NoticeUnit.pends_raise (k : NoticeKind) (j : Nat) (n : NoticeUnit) : (n.raise k j).Pends k j :=
  exists_mem_raisePending k j n.pending

theorem NoticeUnit.Pends.raise {k : NoticeKind} {j : Nat} {n : NoticeUnit} (h : n.Pends k j) (kind : NoticeKind)
    (subject : Nat) : (n.raise kind subject).Pends k j := by
  obtain ⟨x, hx, rfl, rfl⟩ := h
  exact mem_pair_raisePending hx

theorem NoticeUnit.Pends.raiseWatch {k : NoticeKind} {j : Nat} {n : NoticeUnit} (h : n.Pends k j) (key : WatchKey) :
    (n.raiseWatch key).Pends k j := by
  rcases n.raiseWatch_cases key with heq | ⟨i, -, heq⟩ <;> rw [heq]
  · exact h
  · exact h.raise ..

theorem NoticeUnit.Pends.foldl_raiseWatch {k : NoticeKind} {j : Nat} {n : NoticeUnit} (h : n.Pends k j)
    (key : PeerEntry → WatchKey) (gone : List PeerEntry) : (gone.foldl (fun n e => n.raiseWatch (key e)) n).Pends k j := by
  induction gone generalizing n with
  | nil => exact h
  | cons e es ih => exact ih (h.raiseWatch (key e))

/-! ### What the content check can still do (R113) -/

/-- What the content check leaves where it removes no entry: what the registry wrote, and without an entry of the station
the table too; only TABLE_FULL, for a FIGURE frame, may be raised. -/
structure State.Checked (slot : Nat) (b : Body) (a t : State) : Prop where
  peers : t.peers = a.peers
  missing : t.intake.counters.missing = a.intake.counters.missing
  stepBacks : t.intake.counters.stepBacks = a.intake.counters.stepBacks
  balance : t.balance = a.balance
  attest : t.attest = a.attest
  table : (b.isFigure = false ∨ ∀ e ∈ a.table.entries, e.slot ≠ slot) →
    t.table.entries = a.table.entries ∧ t.table.changeCount = a.table.changeCount
  raised : t.notices = a.notices ∨ (b.isFigure = true ∧ t.notices = a.notices.raise .tableFull 0)

theorem State.Checked.refl (slot : Nat) (b : Body) (a : State) : a.Checked slot b a :=
  ⟨rfl, rfl, rfl, rfl, rfl, fun _ => ⟨rfl, rfl⟩, .inl rfl⟩

theorem State.Checked.countMalformed (slot : Nat) (b : Body) (a : State) : a.Checked slot b a.countMalformed :=
  ⟨rfl, rfl, rfl, rfl, rfl, fun _ => ⟨rfl, rfl⟩, .inl rfl⟩

theorem State.entry?_of_no_station {t : FigureTable} {slot : Nat} (h : ∀ e ∈ t.entries, e.slot ≠ slot) (point : Nat) :
    t.entry? slot point = none :=
  List.find?_eq_none.2 fun e he hkey => h e he (isEntry_iff.1 hkey).1

/-- A FIGURE frame goes to the STU, is dropped or malformed, or sets conflict flags of its entry (R37 to R40). -/
theorem State.Checked.figureFrame {b : Body} (hb : b.isFigure = true) (slot point : Nat) (kind : PointKind)
    (parcel factor : Nat) (items : List StuItem) (a : State) :
    a.Checked slot b (a.figureFrame slot point kind parcel factor items) := by
  cases hentry : a.table.entry? slot point with
  | none =>
    by_cases hitems : items = []
    · simpa [State.figureFrame, hentry, hitems] using State.Checked.countMalformed slot b a
    · rw [State.figureFrame_of_no_entry hentry hitems]
      split
      · exact ⟨rfl, rfl, rfl, rfl, rfl, fun _ => ⟨rfl, rfl⟩, .inr ⟨hb, rfl⟩⟩
      · rw [State.startMerge_eq]
        exact ⟨rfl, rfl, rfl, rfl, rfl, fun _ => ⟨rfl, rfl⟩, .inl rfl⟩
  | some e =>
    by_cases hother : items = [] ∨ e.kind ≠ kind ∨ e.parcel ≠ parcel ∨ e.meterFactor ≠ factor
    · have hmalformed : a.figureFrame slot point kind parcel factor items = a.countMalformed := by
        simp only [State.figureFrame, hentry, List.isEmpty_iff]
        exact if_pos hother
      exact hmalformed ▸ State.Checked.countMalformed slot b a
    · obtain ⟨hitems, hkind, hparcel, hfactor⟩ := by simpa only [not_or, not_not] using hother
      rw [State.figureFrame_of_entry hentry hitems hkind hparcel hfactor, State.startMerge_eq, State.applyConflicts_eq]
      refine ⟨rfl, rfl, rfl, rfl, rfl, fun h => ?_, .inl rfl⟩
      rcases h with h | h
      · exact absurd hb (by simp [h])
      · exact absurd hentry (by simp [State.entry?_of_no_station h])

/-- The content check and the route of a frame: an entry is removed by a WITHDRAW that agrees with it, and by nothing
else. -/
theorem State.route_cases (slot : Nat) (b : Body) (a : State) :
    a.Checked slot b (a.route slot b)
    ∨ ∃ point kindCode parcel e, b = .withdraw point kindCode parcel ∧ a.table.entry? slot point = some e
        ∧ e.parcel = parcel ∧ a.route slot b = a.removeEntries [e] := by
  cases b with
  | presence p => exact .inl (.refl ..)
  | figure point kindCode parcel factor blocks =>
    refine .inl ?_
    simp only [State.route]
    split
    · split
      · exact .figureFrame rfl ..
      · exact .countMalformed ..
    · exact .countMalformed ..
  | withdraw point kindCode parcel =>
    simp only [State.route]
    split
    · next kind _ =>
      unfold State.withdrawFrame
      split
      · exact .inl (.refl ..)
      · next e hentry =>
        split
        · next hagrees => exact .inr ⟨point, kindCode, parcel, e, rfl, hentry, hagrees.2, rfl⟩
        · exact .inl (.countMalformed ..)
    · exact .inl (.countMalformed ..)
  | attest parcel epoch theirs =>
    refine .inl ?_
    simp only [State.route]
    split
    · exact ⟨rfl, rfl, rfl, rfl, rfl, fun _ => ⟨rfl, rfl⟩, .inl rfl⟩
    · exact .countMalformed ..

/-- A pending notice is still pending after the content check. -/
theorem State.route_pends {a : State} {k : NoticeKind} {j : Nat} (h : a.notices.Pends k j) (slot : Nat) (b : Body) :
    (a.route slot b).notices.Pends k j := by
  rcases a.route_cases slot b with hchecked | ⟨point, kindCode, parcel, e, -, -, -, hroute⟩
  · rcases hchecked.raised with heq | ⟨-, heq⟩ <;> rw [heq]
    · exact h
    · exact h.raise ..
  · rw [hroute, State.removeEntries_of_ne_nil (by simp)]
    exact h.raiseWatch _

/-- What stands of the registry's work after the content check: the record and its counts always; without an entry of the
station all of it; the recompute requests but for that of an entry which a WITHDRAW removes, and that request comes after
them. -/
theorem State.route_stands (slot : Nat) (b : Body) (a : State) :
    let t := a.route slot b
    t.peers = a.peers ∧ t.intake.counters.missing = a.intake.counters.missing
    ∧ t.intake.counters.stepBacks = a.intake.counters.stepBacks
    ∧ ((∀ e ∈ a.table.entries, e.slot ≠ slot) → t.table.entries = a.table.entries
        ∧ t.table.changeCount = a.table.changeCount ∧ t.attest = a.attest ∧ t.balance = a.balance
        ∧ (b.isFigure = false → t.notices = a.notices))
    ∧ ((∀ point kind parcel : Nat, b ≠ .withdraw point kind parcel) → t.balance = a.balance)
    ∧ (∀ point kind parcel : Nat, b = .withdraw point kind parcel → 1 ≤ parcel → parcel ≤ 8 →
        (t.table.entries = a.table.entries → t.balance = a.balance)
        ∧ (t.table.entries ≠ a.table.entries → t.balance = a.balance.request
          { own := a.table.own, entries := t.table.entries, peers := a.peers, node := a.sheet.node } parcel)) := by
  intro t
  rcases a.route_cases slot b with hchecked | ⟨point, kindCode, parcel, e, rfl, hentry, rfl, hroute⟩
  · refine ⟨hchecked.peers, hchecked.missing, hchecked.stepBacks, fun hgone => ?_, fun _ => hchecked.balance, ?_⟩
    · obtain ⟨hentries, hcount⟩ := hchecked.table (.inr hgone)
      refine ⟨hentries, hcount, hchecked.attest, hchecked.balance, fun hother => ?_⟩
      exact hchecked.raised.resolve_right fun ⟨hfigure, _⟩ => by simp [hother] at hfigure
    · rintro point kind parcel rfl - -
      exact ⟨fun _ => hchecked.balance, fun hne => absurd (hchecked.table (.inl rfl)).1 hne⟩
  · have hpeers : t.peers = a.peers ∧ t.intake = a.intake := by
      unfold t
      rw [hroute]
      exact ⟨State.removeEntries_peers .., State.removeEntries_intake ..⟩
    obtain ⟨hmem, heslot, hepoint⟩ := entry?_key hentry
    refine ⟨hpeers.1, by rw [hpeers.2], by rw [hpeers.2], fun hgone => absurd heslot (hgone e hmem), fun hno => ?_, ?_⟩
    · exact absurd rfl (hno point kindCode e.parcel)
    · intro point' kind' parcel' heq hlow hhigh
      obtain ⟨-, -, rfl⟩ := Body.withdraw.inj heq
      have ht : t = a.removeEntries [e] := hroute
      rw [State.removeEntries_singleton hlow hhigh] at ht
      refine ⟨fun hsame => ?_, fun _ => by rw [ht]⟩
      rw [ht] at hsame
      have := List.filter_eq_self.1 hsame e hmem
      simp at this

/-! ### What the registry leaves, by its gap and whether entries go (R117, R118, R120) -/

/-- The registry's result with its gap and its removal named. -/
theorem State.registered_of {s : State} {f : Frame} {b : Body} {gap : Nat} {drop : Bool}
    (hgap : (if (s.peer f.source.toNat).state = .present ∧ (s.peer f.source.toNat).generation = some f.generation then
      (s.peer f.source.toNat).gap f else 0) = gap)
    (hdrop : (decide (32768 ≤ gap) || decide ((s.peer f.source.toNat).generation ≠ some f.generation)) = drop)
    (rest : List Frame) :
    let slot := f.source.toNat
    let r := s.peer slot
    let back := decide (32768 ≤ gap)
    let missing := if back then 0 else gap
    let returned : State := if r.state = .absent then { s with notices := s.notices.raise .peerReturn slot } else s
    let after := r.accepting f b s.silenceBits missing drop
    let heard : State := { (if drop then returned.stationRemoved slot else returned) with
      peers := s.peers.set slot after
      intake := { s.intake with queue := rest, counters := { s.intake.counters with
        missing := if missing = 0 then s.intake.counters.missing
          else min 4294967295 (s.intake.counters.missing + missing)
        stepBacks := if back then min 4294967295 (s.intake.counters.stepBacks + 1) else s.intake.counters.stepBacks } } }
    s.registered f rest b = { heard with balance := heard.requestingAll heard.peers (r.keyMoved after drop) } := by
  subst hdrop
  subst hgap
  rfl

/-- A station whose entries were removed has none. -/
theorem State.stationRemoved_no_station (s : State) (slot : Nat) :
    ∀ e ∈ (s.stationRemoved slot).table.entries, e.slot ≠ slot :=
  fun _ he => of_decide_eq_true (List.mem_filter.1 he).2

theorem State.stationRemoved_if_kept (drop : Bool) (s : State) (slot : Nat) :
    (if drop then s.stationRemoved slot else s).table.own = s.table.own
      ∧ (if drop then s.stationRemoved slot else s).sheet = s.sheet := by
  cases drop <;> exact ⟨rfl, rfl⟩

/-- Settles O46: the registry's result with the gap against the baseline, and what the content check leaves of it. -/
theorem sequenceIsJudgedAgainstTheBaseline : Obligations.SequenceIsJudgedAgainstTheBaseline := by
  intro s f rest b base slot r d hready hlisted hform hagrees hpresent hgeneration hbaseline back counters after c balance
  have haccepts : s.accepts f rest b := ⟨hready, hlisted, hform, hagrees, .inl hpresent⟩
  have hgap : (if r.state = .present ∧ r.generation = some f.generation then r.gap f else 0) = d := by
    rw [if_pos ⟨hpresent, hgeneration⟩, PeerRecord.gap, hbaseline]
    rfl
  have hdrop : (decide (32768 ≤ d) || decide (r.generation ≠ some f.generation)) = back := by
    simp [hgeneration, back]
  have hmissing : (if (if back then 0 else d) = 0 then s.intake.counters.missing
      else min 4294967295 (s.intake.counters.missing + (if back then 0 else d))) = counters.missing := by
    by_cases hd : 32768 ≤ d
    · simp [counters, back, hd, show ¬ d ≤ 32767 by omega]
    · by_cases hzero : d = 0
      · simp [counters, back, hzero]
      · simp [counters, back, hd, hzero, show 1 ≤ d ∧ d ≤ 32767 by omega]
  have hregistered : s.registered f rest b = { c with balance := balance } := by
    have hreturned : ¬ (s.peer f.source.toNat).state = .absent := fun habsent => by
      cases hpresent.symm.trans habsent
    rw [State.registered_of hgap hdrop rest]
    dsimp only
    rw [if_neg hreturned, hmissing]
  have hexec : exec .intakeTakeFrame s = .next (({ c with balance := balance } : State).route slot b) :=
    hregistered ▸ congrArg _ (State.takeFrame_of_accepts haccepts)
  obtain ⟨hown, hsheet⟩ := State.stationRemoved_if_kept back s slot
  have hown' : c.table.own = s.table.own := hown
  have hnode : c.sheet.node = s.sheet.node := congrArg SheetStore.node hsheet
  obtain ⟨hpeers, hmissed, hbacks, hgone, hrequests, hwithdraw⟩ := State.route_stands slot b { c with balance := balance }
  refine ⟨_, hexec, hpeers, hmissed, hbacks, fun hback => hgone ?_, hrequests, ?_, ?_⟩
  · have hc : c.table = (s.stationRemoved slot).table := by
      unfold c
      rw [if_pos hback]
    exact hc ▸ s.stationRemoved_no_station slot
  · rw [← hown', ← hnode]
    exact hwithdraw
  · rintro p rfl
    rfl

theorem State.stationRemoved_pends {k : NoticeKind} {j : Nat} {s : State} (h : s.notices.Pends k j) (slot : Nat) :
    (s.stationRemoved slot).notices.Pends k j :=
  h.foldl_raiseWatch (fun e => { slot := slot, point := e.point }) _

/-- Settles O47: the registry's result without a gap, and what the content check leaves of it. -/
theorem newGenerationsAndReturns : Obligations.NewGenerationsAndReturns := by
  intro s f rest b slot r hready hlisted hform hagrees hstate drop notices after returned c balance
  have haccepts : s.accepts f rest b :=
    ⟨hready, hlisted, hform, hagrees, hstate.elim .inr fun ⟨hpresent, _⟩ => .inl hpresent⟩
  have hgap : (if r.state = .present ∧ r.generation = some f.generation then r.gap f else 0) = 0 := by
    refine if_neg fun ⟨hpresent, hsame⟩ => ?_
    rcases hstate with habsent | ⟨-, hother⟩
    · simp [hpresent] at habsent
    · exact hother hsame
  have hdrop : (decide (32768 ≤ 0) || decide (r.generation ≠ some f.generation)) = drop := Bool.false_or _
  have hreturned : (if (s.peer f.source.toNat).state = .absent then
      { s with notices := s.notices.raise .peerReturn f.source.toNat } else s) = returned := by
    unfold returned notices
    split <;> rfl
  have hregistered : s.registered f rest b = { c with balance := balance } := by
    rw [State.registered_of hgap hdrop rest]
    dsimp only
    rw [hreturned]
    rfl
  have hexec : exec .intakeTakeFrame s = .next (({ c with balance := balance } : State).route slot b) :=
    hregistered ▸ congrArg _ (State.takeFrame_of_accepts haccepts)
  obtain ⟨hown, hsheet⟩ := State.stationRemoved_if_kept drop returned slot
  have hown' : c.table.own = s.table.own := hown
  have hnode : c.sheet.node = s.sheet.node := congrArg SheetStore.node hsheet
  obtain ⟨hpeers, hmissed, hbacks, hgone, hrequests, hwithdraw⟩ := State.route_stands slot b { c with balance := balance }
  refine ⟨_, hexec, hpeers, hmissed, hbacks, fun hdropped => hgone ?_, fun habsent => State.route_pends ?_ slot b, hrequests,
    ?_, ?_⟩
  · have hc : c.table = (returned.stationRemoved slot).table := by
      unfold c
      rw [if_pos hdropped]
    exact hc ▸ returned.stationRemoved_no_station slot
  · have hraised : returned.notices.Pends .peerReturn slot := by
      unfold returned notices
      rw [if_pos habsent]
      exact NoticeUnit.pends_raise ..
    unfold c
    split
    · exact State.stationRemoved_pends hraised slot
    · exact hraised
  · rw [← hown', ← hnode]
    exact hwithdraw
  · rintro p rfl
    rfl

/-! ### The content check (R2, R113) -/

/-- The kind of point a role implies has the code a frame gives. -/
def State.impliesKind (s : State) (slot kindCode : Nat) : Prop :=
  ∃ kind, (s.rosterRole slot).pointKind = some kind ∧ kind.code = kindCode

theorem State.kindFor_eq_some {s : State} {slot point kindCode parcel : Nat} {kind : PointKind}
    (h : s.kindFor slot point kindCode parcel = some kind) :
    (s.rosterRole slot).pointKind = some kind ∧ kind.code = kindCode ∧ point ≤ 23 ∧ s.parcelDefined parcel = true := by
  unfold State.kindFor at h
  split at h
  · next k hrole =>
    split at h
    · next hgood =>
      obtain ⟨hcode, hpoint, hparcel⟩ := hgood
      obtain rfl := Option.some.inj h
      exact ⟨hrole, hcode, of_decide_eq_true hpoint, hparcel⟩
    · cases h
  · cases h

theorem State.kindFor_of_bad {s : State} {slot point kindCode parcel : Nat}
    (h : s.parcelDefined parcel = false ∨ 23 < point ∨ ¬ s.impliesKind slot kindCode) :
    s.kindFor slot point kindCode parcel = none := by
  cases hkind : s.kindFor slot point kindCode parcel with
  | none => rfl
  | some kind =>
    obtain ⟨hrole, hcode, hpoint, hparcel⟩ := State.kindFor_eq_some hkind
    rcases h with h | h | h
    · simp [hparcel] at h
    · omega
    · exact absurd ⟨kind, hrole, hcode⟩ h

theorem meterFactorOk_of_bad {kind : PointKind} {factor : Nat}
    (h : (kind.code = 3 ∧ (factor < 90000 ∨ 110000 < factor)) ∨ (kind.code ≠ 3 ∧ factor ≠ 0)) :
    meterFactorOk kind factor = false := by
  cases kind with
  | shipTank | shoreTank => simpa [PointKind.code, meterFactorOk] using h
  | meter =>
    have hout : factor < 90000 ∨ 110000 < factor := by simpa [PointKind.code] using h
    rcases hout with hlow | hhigh
    · simp [meterFactorOk, inRange, Nat.not_le.2 hlow]
    · simp [meterFactorOk, inRange, Nat.not_le.2 hhigh]

/-- A field of a block is out of its range (R2). -/
def BlockBody.outOfRange (k : Nat) (b : BlockBody) : Prop :=
  b.revision < 1 ∨ 65535 < b.revision ∨ 4000000000 < b.raw.quantity ∨ 4000000000 < b.raw.water
    ∨ b.raw.temperature < -4000 ∨ 15000 < b.raw.temperature ∨ (k = 3 ∧ b.raw.water ≠ 0) ∨ 32 ≤ b.sourceMask

theorem PointKind.code_eq_three_iff (kind : PointKind) : kind.code = 3 ↔ kind = .meter := by cases kind <;> decide

theorem blockItem_of_bad {kind : PointKind} {b : BlockBody} (h : b.outOfRange kind.code) (parcel factor : Nat) (e : Epoch) :
    blockItem kind parcel factor e b = none := by
  unfold blockItem
  split
  · next quals hquals =>
    refine if_neg fun ⟨hrevision, hraw⟩ => ?_
    have hmask : b.sourceMask < 32 := by
      by_contra hge
      simp [ObsQuals.ofMask, hge] at hquals
    simp only [inRange, RawFigures.inRangeFor, Bool.and_eq_true, Bool.or_eq_true, decide_eq_true_eq] at hrevision hraw
    rw [BlockBody.outOfRange, PointKind.code_eq_three_iff] at h
    obtain ⟨hraw, hdry⟩ := hraw
    rcases h with h | h | h | h | h | h | ⟨hmeter, hwater⟩ | h
    case inr.inr.inr.inr.inr.inr.inl => exact hdry.elim (· hmeter) hwater
    all_goals omega
  · rfl

theorem blockItems_of_bad {kind : PointKind} {blocks : List (Epoch × BlockBody)} {x : Epoch × BlockBody} (hx : x ∈ blocks)
    (hbad : x.2.outOfRange kind.code) (parcel factor : Nat) : blockItems kind parcel factor blocks = none := by
  cases hitems : blockItems kind parcel factor blocks with
  | none => rfl
  | some items =>
    induction blocks generalizing items with
    | nil => cases hx
    | cons y ys ih =>
      obtain ⟨i, is, hi, his, -⟩ := blockItems_cons hitems
      rcases List.mem_cons.1 hx with rfl | hx
      · rw [blockItem_of_bad hbad] at hi
        cases hi
      · cases ih hx is his

theorem State.figureFrame_of_no_block (slot point : Nat) (kind : PointKind) (parcel factor : Nat) (s : State) :
    s.figureFrame slot point kind parcel factor [] = s.countMalformed := by
  unfold State.figureFrame
  split
  · rfl
  · exact if_pos (.inl rfl)

/-- A FIGURE frame that fails the content check in its point, its factor or its blocks is malformed. -/
theorem State.route_figure_of_bad {s : State} {slot point k parcel factor : Nat} {blocks : List (Epoch × BlockBody)}
    (h : s.parcelDefined parcel = false ∨ 23 < point ∨ ¬ s.impliesKind slot k ∨ blocks = []
      ∨ (k = 3 ∧ (factor < 90000 ∨ 110000 < factor)) ∨ (k ≠ 3 ∧ factor ≠ 0) ∨ ∃ x ∈ blocks, x.2.outOfRange k) :
    s.route slot (.figure point k parcel factor blocks) = s.countMalformed := by
  simp only [State.route]
  cases hkind : s.kindFor slot point k parcel with
  | none => rfl
  | some kind =>
    obtain ⟨hrole, rfl, hpoint, hparcel⟩ := State.kindFor_eq_some hkind
    dsimp only
    rcases h with h | h | h | rfl | h | h | ⟨x, hx, hbad⟩
    · simp [hparcel] at h
    · omega
    · exact absurd ⟨kind, hrole, rfl⟩ h
    · cases meterFactorOk kind factor
      · rfl
      · exact s.figureFrame_of_no_block ..
    · rw [meterFactorOk_of_bad (.inl h)]
    · rw [meterFactorOk_of_bad (.inr h)]
    · rw [blockItems_of_bad hx hbad]
      cases meterFactorOk kind factor <;> rfl

theorem State.route_withdraw_of_bad {s : State} {slot point k parcel : Nat}
    (h : s.parcelDefined parcel = false ∨ 23 < point ∨ ¬ s.impliesKind slot k) :
    s.route slot (.withdraw point k parcel) = s.countMalformed := by
  simp only [State.route, State.kindFor_of_bad h]

theorem Epoch.ofAttestCode_code {e : Epoch} (h : e ≠ .interim) : Epoch.ofAttestCode e.code = some e := by
  cases e with
  | interim => exact absurd rfl h
  | opening | closing => rfl

theorem State.route_attest_of_bad {s : State} {parcel epoch : Nat}
    (h : s.parcelDefined parcel = false ∨ (epoch ≠ 1 ∧ epoch ≠ 3)) (slot : Nat) (theirs : Summary) :
    s.route slot (.attest parcel epoch theirs) = s.countMalformed := by
  rcases h with h | h
  · simp only [State.route, h]
    split <;> simp_all
  · simp only [State.route, Epoch.ofAttestCode_of_other h]

theorem State.route_attest {s : State} {parcel : Nat} {e : Epoch} (he : e ≠ .interim) (hparcel : s.parcelDefined parcel = true)
    (slot : Nat) (theirs : Summary) :
    s.route slot (.attest parcel e.code theirs) = { s with
      intake := { s.intake with merging := some (.comparison slot parcel e theirs) }
      table := { s.table with hold := { s.table.hold with holder := some .intake } } } := by
  simp only [State.route, Epoch.ofAttestCode_code he, hparcel]

/-! ### WITHDRAW frames (R42) -/

theorem State.route_withdraw {s : State} {slot point kindCode parcel : Nat} {kind : PointKind}
    (h : s.kindFor slot point kindCode parcel = some kind) :
    s.route slot (.withdraw point kindCode parcel) = s.withdrawFrame slot point kind parcel := by
  simp only [State.route, h]

theorem State.withdrawFrame_of_no_entry {s : State} {slot point : Nat} (h : s.table.entry? slot point = none)
    (kind : PointKind) (parcel : Nat) : s.withdrawFrame slot point kind parcel = s := by
  simp only [State.withdrawFrame, h]

theorem State.withdrawFrame_of_agreeing {s : State} {slot point : Nat} {e : PeerEntry}
    (h : s.table.entry? slot point = some e) : s.withdrawFrame slot point e.kind e.parcel = s.removeEntries [e] := by
  simp only [State.withdrawFrame, h, and_self, if_true]

theorem State.withdrawFrame_of_other {s : State} {slot point parcel : Nat} {kind : PointKind} {e : PeerEntry}
    (h : s.table.entry? slot point = some e) (hother : e.kind ≠ kind ∨ e.parcel ≠ parcel) :
    s.withdrawFrame slot point kind parcel = s.countMalformed := by
  simp only [State.withdrawFrame, h]
  exact if_neg fun ⟨hkind, hparcel⟩ => hother.elim (· hkind) (· hparcel)

theorem State.parcelDefined_congr {s t : State} (h : t.sheet = s.sheet) (p : Nat) : t.parcelDefined p = s.parcelDefined p := by
  rw [State.parcelDefined, State.parcelDef?, h]
  rfl

theorem State.impliesKind_congr {s t : State} (h : t.sheet = s.sheet) (slot kindCode : Nat) :
    t.impliesKind slot kindCode ↔ s.impliesKind slot kindCode := by
  rw [State.impliesKind, State.rosterRole, State.roster, h]
  rfl

theorem State.registered_hold (s : State) (f : Frame) (rest : List Frame) (b : Body) :
    (s.registered f rest b).table.hold = s.table.hold := by
  have hremoved (t : State) (slot : Nat) : (t.stationRemoved slot).table.hold = t.table.hold := rfl
  unfold State.registered
  simp only [apply_ite State.table, apply_ite FigureTable.hold, hremoved, ite_self]

/-- Settles O49: on the registry's state the content check, then the removal of the agreeing entry, then the hold. -/
theorem contentCheckAndWithdrawFrames : Obligations.ContentCheckAndWithdrawFrames := by
  refine ⟨fun s f rest b haccepts => ?_, fun s f rest point parcel kind => ?_,
    fun s f rest parcel e theirs haccepts he hparcel => ?_⟩
  · intro a slot implied bad hbad
    have hsheet : a.sheet = s.sheet := s.registered_sheet f rest b
    have hmalformed : a.route slot b = a.countMalformed := by
      have hdefined (p : Nat) := State.parcelDefined_congr hsheet p
      have himplied (k : Nat) : a.impliesKind slot k ↔ implied k := State.impliesKind_congr hsheet slot k
      cases b with
      | presence p => exact hbad.elim
      | figure point k parcel factor blocks =>
        refine State.route_figure_of_bad ?_
        rw [hdefined, himplied]
        exact hbad
      | withdraw point k parcel =>
        refine State.route_withdraw_of_bad ?_
        rw [hdefined, himplied]
        exact hbad
      | attest parcel epoch theirs =>
        refine State.route_attest_of_bad ?_ slot theirs
        rw [hdefined]
        exact hbad
    rw [exec_intakeTakeFrame, State.takeFrame_of_accepts haccepts, hmalformed]
    rfl
  · intro slot haccepts hrole hpoint hparcel _ a entry
    have hsheet : a.sheet = s.sheet := s.registered_sheet f rest _
    have hkind : a.kindFor slot point kind.code parcel = some kind := State.kindFor_of_good hsheet hrole rfl hpoint hparcel
    have hexec : exec .intakeTakeFrame s = .next (a.withdrawFrame slot point kind parcel) :=
      congrArg _ ((State.takeFrame_of_accepts haccepts).trans (State.route_withdraw hkind))
    rw [hexec]
    refine ⟨fun hnone => ?_, fun e hentry hother => ?_, fun e hentry hek hep hlow hhigh => ?_⟩
    · rw [State.withdrawFrame_of_no_entry hnone]
    · rw [State.withdrawFrame_of_other hentry hother]
      rfl
    · subst hek hep
      obtain ⟨-, heslot, hepoint⟩ := entry?_key hentry
      rw [State.withdrawFrame_of_agreeing hentry, State.removeEntries_singleton hlow hhigh, heslot, hepoint, hsheet]
  · intro a
    have hdefined : a.parcelDefined parcel = true := (State.parcelDefined_congr (s.registered_sheet f rest _) parcel).trans hparcel
    have hhold : a.table.hold = { holder := none, waiting := false } := by
      obtain ⟨⟨-, hclear, -⟩, -⟩ := haccepts
      exact (s.registered_hold f rest _).trans hclear
    rw [exec_intakeTakeFrame, State.takeFrame_of_accepts haccepts, State.route_attest he hdefined, hhold]

end Sys2Proof.Machine
end

section
/-! PROOFS. The silence timer of a station, the presence and republish timers, and the subjects they give (06 sections 6.3,
6.4). -/

namespace Sys2Proof.Machine

/-! ### The silence timer (R119) -/

theorem exec_silenceTimerExpiry (slot : BitVec 4) (s : State) :
    exec (.silenceTimerExpiry slot) s = .next (s.silenceExpired slot.toNat) := rfl

/-- The station's state changes, so every parcel's recompute is requested. -/
theorem State.silenceExpired_of_due {s : State} {slot : Nat} (hstate : (s.peer slot).state = .present)
    (htimer : (s.peer slot).timer = some 0) :
    let peers := s.peers.set slot { s.peer slot with state := .absent, timer := none }
    s.silenceExpired slot = { s with
      peers := peers
      balance := (s.balance.records.map (·.parcel)).foldl (BalanceEngine.request
        { own := s.table.own, entries := s.table.entries, peers := peers, node := s.sheet.node }) s.balance
      notices := s.notices.raise .peerAbsent slot } := by
  intro peers
  have hkey : (s.peer slot).balanceKey ≠
      ({ s.peer slot with state := .absent, timer := none } : PeerRecord).balanceKey := fun heq => by
    cases hstate.symm.trans (congrArg Prod.fst heq)
  rw [State.silenceExpired, if_pos ⟨hstate, htimer⟩, State.setPeer_of_key_ne hkey]
  rfl

theorem State.silenceExpired_of_not_due {s : State} {slot : Nat}
    (h : (s.peer slot).state ≠ .present ∨ (s.peer slot).timer ≠ some 0) : s.silenceExpired slot = s :=
  if_neg (by tauto)

/-! ### Subjects given (R124, R125, R129) -/

theorem Publisher.giveByTimer_eq (p : Publisher) (sub : Subject) : p.giveByTimer sub = { p with
    queue := if ∃ j ∈ p.queue, j.subject = sub then p.queue else p.queue ++ [newJob sub] } := by
  simp only [Publisher.giveByTimer, Publisher.hasJob_iff]
  split <;> rfl

theorem Publisher.give_of_no_job {p : Publisher} {sub : Subject} (h : ∀ j ∈ p.queue, j.subject ≠ sub) :
    p.give sub = { p with queue := p.queue ++ [newJob sub] } := by
  rcases p.give_cases sub with ⟨-, heq⟩ | ⟨hjob, -⟩
  · exact heq
  · obtain ⟨j, hj, hsub⟩ := (p.hasJob_iff sub).1 hjob
    exact absurd hsub (h j hj)

theorem Publisher.give_of_job {p : Publisher} {sub : Subject} (h : ∃ j ∈ p.queue, j.subject = sub) :
    p.give sub = { p with queue := p.queue.map (fun j =>
      if j.subject = sub ∧ j.inFlight = true then { j with resend := true } else j) } := by
  rcases p.give_cases sub with ⟨hjob, -⟩ | ⟨-, heq⟩
  · cases ((p.hasJob_iff sub).2 h).symm.trans hjob
  · exact heq

/-! ### The presence and republish timers (R129) -/

theorem exec_presenceTimerExpiry (s : State) : exec .presenceTimerExpiry s = .next { s with pub := s.pub.presenceExpired } := rfl

theorem exec_republishTimerExpiry (s : State) : exec .republishTimerExpiry s = .next s.republishExpired := rfl

theorem Publisher.presenceExpired_of_due {p : Publisher} (h : p.presenceTimer = some 0) :
    p.presenceExpired = { p.giveByTimer .presence with presenceTimer := some 2000000 } :=
  if_pos h

theorem Publisher.presenceExpired_of_not_due {p : Publisher} (h : p.presenceTimer ≠ some 0) : p.presenceExpired = p := if_neg h

/-- The next subject after a position is the first of a later place, or the first of all. -/
theorem nextInRotation_of_position (cur : Subject) (eligible : List Subject) :
    nextInRotation (some cur) eligible =
      (eligible.find? (fun t => decide (cur.rank < t.rank))).or eligible.head? := rfl

theorem nextInRotation_nil (position : Option Subject) : nextInRotation position [] = none := by
  cases position <;> rfl

theorem nextInRotation_eq_some {position : Option Subject} {eligible : List Subject} {sub : Subject}
    (hafter : ∀ cur, position = some cur → eligible.find? (fun t => decide (cur.rank < t.rank)) = some sub
      ∨ (eligible.find? (fun t => decide (cur.rank < t.rank)) = none ∧ eligible.head? = some sub))
    (hfirst : position = none → eligible.head? = some sub) : nextInRotation position eligible = some sub := by
  cases position with
  | none => exact hfirst rfl
  | some cur =>
    rcases hafter cur rfl with hfound | ⟨hwrap, hhead⟩
    · rw [nextInRotation_of_position, hfound, Option.some_or]
    · rw [nextInRotation_of_position, hwrap, Option.none_or, hhead]

theorem State.republishExpired_of_not_due {s : State} (h : s.pub.republishTimer ≠ some 0) : s.republishExpired = s := if_neg h

theorem State.republishExpired_of_due {s : State} (h : s.pub.republishTimer = some 0) :
    s.republishExpired =
      let pub := { s.pub with republishTimer := some s.republishBits }
      match nextInRotation s.pub.rotation s.eligible with
      | some sub => { s with pub := { pub.giveByTimer sub with rotation := some sub } }
      | none => { s with pub := pub } :=
  if_pos h

theorem State.republishBits_of_header {s : State} {h : Header} (hheader : s.header? = some h) :
    s.republishBits = h.republish * 250000 :=
  congrArg (fun x => (x.map (·.republish)).getD 0 * 250000) hheader

/-- Settles O51: each expiry by whether it is due, and a subject given by whether a job has it. -/
theorem timersAndTheirSubjects : Obligations.TimersAndTheirSubjects := by
  refine ⟨fun slot s => ?_, fun s hdue => ?_, fun s h hheader hdue => ?_, fun s => ⟨fun hidle => ?_, fun hidle => ?_⟩,
    fun p sub => ⟨Publisher.give_of_no_job, Publisher.give_of_job⟩⟩
  · intro r peers
    refine ⟨fun hstate htimer => ?_, fun hidle => ?_⟩
    · rw [exec_silenceTimerExpiry, State.silenceExpired_of_due hstate htimer]
    · rw [exec_silenceTimerExpiry, State.silenceExpired_of_not_due hidle]
  · rw [exec_presenceTimerExpiry, Publisher.presenceExpired_of_due hdue, Publisher.giveByTimer_eq]
    rfl
  · intro points summaries eligible place restarted
    have hplace : place = Subject.rank := by
      funext sub
      cases sub <;> rfl
    have heligible : s.eligible = eligible := rfl
    rw [exec_republishTimerExpiry, State.republishExpired_of_due hdue, State.republishBits_of_header hheader, heligible, hplace]
    refine ⟨fun hnone => ?_, fun sub ⟨hafter, hfirst⟩ => ?_⟩
    · rw [hnone, nextInRotation_nil]
    · rw [nextInRotation_eq_some hafter hfirst]
      dsimp only
      rw [Publisher.giveByTimer_eq]
      rfl
  · rw [exec_presenceTimerExpiry, Publisher.presenceExpired_of_not_due hidle]
  · rw [exec_republishTimerExpiry, State.republishExpired_of_not_due hidle]

end Sys2Proof.Machine
end

section
/-! PROOFS. Fields of a byte string by offset and width, and the coding of a frame on the line (spec 00, "Byte order"; 06 section
6.1; 10 section 10.1). -/

namespace Sys2Proof.Machine

/-! ### Fields one after another -/

theorem slice_append (pre bytes post : List Byte) : slice (pre ++ (bytes ++ post)) pre.length bytes.length = bytes := by
  rw [slice, List.drop_left, List.take_left]

theorem slice_append_left (pre bytes : List Byte) (offset n : Nat) :
    slice (pre ++ bytes) (pre.length + offset) n = slice bytes offset n := by
  rw [slice, List.drop_length_add_append]
  rfl

/-- Unsigned values of given widths, one after another, each most significant byte first. -/
def packed (fields : List (Nat × Nat)) : List Byte := fields.flatMap (fun x => beBytes x.1 x.2)

theorem packed_append (fields others : List (Nat × Nat)) : packed (fields ++ others) = packed fields ++ packed others :=
  List.flatMap_append

theorem packed_cons (w n : Nat) (fields : List (Nat × Nat)) : packed ((w, n) :: fields) = beBytes w n ++ packed fields := rfl

theorem packed_length (fields : List (Nat × Nat)) : (packed fields).length = (fields.map (·.1)).sum := by
  induction fields with
  | nil => rfl
  | cons x xs ih =>
    obtain ⟨w, n⟩ := x
    rw [packed_cons, List.length_append, beBytes_length, ih, List.map_cons, List.sum_cons]

/-- A field reads back at the sum of the widths before it. -/
theorem fieldAt_packed {fields : List (Nat × Nat)} {i w n : Nat} (h : fields[i]? = some (w, n)) (hn : n < 256 ^ w)
    (tail : List Byte) : fieldAt (packed fields ++ tail) ((fields.take i).map (·.1)).sum w = n := by
  have hi : i < fields.length := (List.getElem?_eq_some_iff.1 h).1
  have hsplit : fields = fields.take i ++ (w, n) :: fields.drop (i + 1) := by
    conv_lhs => rw [← List.take_append_drop i fields, List.drop_eq_getElem_cons hi]
    rw [(List.getElem?_eq_some_iff.1 h).2]
  have hbytes : packed fields ++ tail =
      packed (fields.take i) ++ (beBytes w n ++ (packed (fields.drop (i + 1)) ++ tail)) := by
    conv_lhs => rw [hsplit]
    simp only [packed_append, packed_cons, List.append_assoc]
  have hslice := slice_append (packed (fields.take i)) (beBytes w n) (packed (fields.drop (i + 1)) ++ tail)
  rw [← hbytes, packed_length, beBytes_length] at hslice
  rw [fieldAt, hslice, beNat_beBytes hn]

theorem beBytes_one (n : Nat) : beBytes 1 n = [BitVec.ofNat 8 n] := by simp [beBytes]

theorem beBytes_two (n : Nat) : beBytes 2 n = [BitVec.ofNat 8 (n / 256), BitVec.ofNat 8 n] := by simp [beBytes]

theorem beNat_one (b : Byte) : beNat [b] = b.toNat := by simp [beNat]

/-! ### Words put together from two halves -/

theorem toNat_append_bits {v w : Nat} (a : BitVec v) (b : BitVec w) : (a ++ b).toNat = 2 ^ w * a.toNat + b.toNat := by
  rw [BitVec.toNat_append, ← Nat.shiftLeft_add_eq_or_of_lt b.isLt, Nat.shiftLeft_eq, Nat.mul_comm]

theorem beNat_two (a b : Byte) : beNat [a, b] = (a ++ b).toNat := by
  rw [toNat_append_bits]
  simp [beNat, Nat.mul_comm]

theorem append_high_low (x : BitVec 16) : BitVec.ofNat 8 (x.toNat / 256) ++ BitVec.ofNat 8 x.toNat = x := by
  refine BitVec.eq_of_toNat_eq ?_
  have hx : x.toNat < 65536 := x.isLt
  rw [toNat_append_bits, BitVec.toNat_ofNat, BitVec.toNat_ofNat]
  omega

/-! ### The check (R109, R169) -/

theorem crcStep_eq (r : BitVec 16) : crcStep r = if r.getLsbD 15 then (r <<< 1) ^^^ 0x8005 else r <<< 1 := by
  rw [crcStep, BitVec.msb_eq_getLsbD_last]
  rfl

theorem setWidth_shiftLeft_eq_append (b : Byte) : b.setWidth 16 <<< 8 = b ++ (0x00 : Byte) := by
  refine BitVec.eq_of_toNat_eq ?_
  have hb : b.toNat < 256 := b.isLt
  rw [toNat_append_bits, BitVec.toNat_shiftLeft, BitVec.toNat_setWidth, Nat.shiftLeft_eq]
  change b.toNat % 65536 * 256 % 65536 = 256 * b.toNat + 0
  omega

theorem crc_append_byte (bytes : List Byte) (b : Byte) : crc (bytes ++ [b]) = crcByte (crc bytes) b := by
  simp [crc]

/-! ### The bytes of a frame and their reception (R95, R107, R168, R169) -/

theorem Frame.checked_eq (f : Frame) : f.checked =
    packed [(1, 16 * f.kind.toNat + f.source.toNat), (1, f.generation.toNat), (2, f.sequence.toNat), (1, f.body.length)]
      ++ f.body := by
  have hfirst : BitVec.ofNat 8 (16 * f.kind.toNat + f.source.toNat) = f.kind ++ f.source := by
    refine BitVec.eq_of_toNat_eq ?_
    have hk := f.kind.isLt
    have hs := f.source.isLt
    rw [toNat_append_bits, BitVec.toNat_ofNat]
    omega
  simp [Frame.checked, packed, beBytes_one, hfirst]

theorem Frame.checked_length (f : Frame) : f.checked.length = 5 + f.body.length := by
  rw [Frame.checked_eq, List.length_append, packed_length]
  rfl

theorem Frame.bytes_eq (f : Frame) : f.bytes = 0xA7 :: f.checked ++ beBytes 2 (crc f.checked).toNat := rfl

theorem Frame.bytes_eq_packed (f : Frame) : f.bytes =
    packed [(1, 0xA7), (1, 16 * f.kind.toNat + f.source.toNat), (1, f.generation.toNat), (2, f.sequence.toNat),
      (1, f.body.length)] ++ (f.body ++ beBytes 2 (crc f.checked).toNat) := by
  rw [Frame.bytes_eq, packed_cons, List.append_assoc, ← List.append_assoc (packed _), ← Frame.checked_eq]
  rfl

/-- What is received where the start byte, the length or the number of bytes is wrong: nothing. -/
theorem Frame.ofBytes_eq_none {bytes : List Byte}
    (h : bytes.getD 0 0 ≠ 0xA7 ∨ 61 < fieldAt bytes 5 1 ∨ bytes.length ≠ 8 + fieldAt bytes 5 1) :
    Frame.ofBytes bytes = none := by
  unfold Frame.ofBytes
  split
  · next start ks gen s1 s0 len rest =>
    have hlen : fieldAt (start :: ks :: gen :: s1 :: s0 :: len :: rest) 5 1 = len.toNat := beNat_one len
    rw [hlen] at h
    refine if_neg fun ⟨hstart, hbody, hrest, _⟩ => ?_
    have hbody' : len.toNat ≤ 61 := hbody
    simp only [List.getD_cons_zero, List.length_cons] at h
    rcases h with h | h | h
    · exact h hstart
    · omega
    · omega
  · rfl

/-- Header, length and body of a frame, with any two bytes as its check: the frame, if they are its check. -/
theorem Frame.ofBytes_checked {f : Frame} (h : f.body.length ≤ 61) {tail : List Byte} (htail : tail.length = 2) :
    Frame.ofBytes (0xA7 :: f.checked ++ tail) = if beNat tail = (crc f.checked).toNat then some f else none := by
  have hlen : (BitVec.ofNat 8 f.body.length).toNat = f.body.length := by
    rw [BitVec.toNat_ofNat]
    omega
  have hbytes : 0xA7 :: f.checked ++ tail = Config.startByte :: (f.kind ++ f.source) :: f.generation
      :: BitVec.ofNat 8 (f.sequence.toNat / 256) :: BitVec.ofNat 8 f.sequence.toNat :: BitVec.ofNat 8 f.body.length
      :: (f.body ++ tail) := by
    simp [Frame.checked, beBytes_two, Config.startByte]
  have hchecked : (f.kind ++ f.source) :: f.generation :: BitVec.ofNat 8 (f.sequence.toNat / 256)
      :: BitVec.ofNat 8 f.sequence.toNat :: BitVec.ofNat 8 f.body.length :: f.body = f.checked := by
    simp [Frame.checked, beBytes_two]
  have hk := f.kind.isLt
  have hs := f.source.isLt
  have hkind : (f.kind ++ f.source).extractLsb' 4 4 = f.kind := by
    refine BitVec.eq_of_toNat_eq ?_
    rw [BitVec.extractLsb'_toNat, toNat_append_bits, Nat.shiftRight_eq_div_pow]
    omega
  have hsource : (f.kind ++ f.source).extractLsb' 0 4 = f.source := by
    refine BitVec.eq_of_toNat_eq ?_
    rw [BitVec.extractLsb'_toNat, toNat_append_bits, Nat.shiftRight_eq_div_pow]
    omega
  rw [hbytes, Frame.ofBytes, hlen, List.take_left, List.drop_left, hchecked, hkind, hsource, append_high_low]
  refine if_congr ⟨fun h => h.2.2.2, fun hcheck => ⟨rfl, h, by simp [htail], hcheck⟩⟩ rfl rfl

/-- Settles O60: header and check as fields of the bytes, and the reception of any two bytes in the place of the check. -/
theorem framesDecodeToWhatWasSent : Obligations.FramesDecodeToWhatWasSent := by
  refine ⟨fun f hbody => ?_, fun f a b hbody hcheck => ?_, fun f start rest _ hstart => ?_, fun f hbody => ?_, ?_,
    fun bytes h => Frame.ofBytes_eq_none h⟩
  · rw [Frame.bytes_eq, Frame.ofBytes_checked hbody (beBytes_length ..), beNat_beBytes (crc f.checked).isLt, if_pos rfl]
  · rw [Frame.ofBytes_checked hbody rfl, beNat_two, if_neg fun heq => hcheck (BitVec.eq_of_toNat_eq heq)]
  · exact Frame.ofBytes_eq_none (.inl hstart)
  · intro n
    have hlength : f.bytes.length = 8 + n := by
      rw [Frame.bytes_eq, List.length_append, List.length_cons, Frame.checked_length, beBytes_length]
      omega
    have hchecked : slice f.bytes 1 (5 + n) = f.checked := by
      rw [← Frame.checked_length]
      exact slice_append [0xA7] f.checked _
    have hcheck : slice f.bytes (6 + n) 2 = beBytes 2 (crc f.checked).toNat := by
      have hpre : (0xA7 :: f.checked).length = 6 + n := by
        rw [List.length_cons, Frame.checked_length]
        omega
      rw [← hpre, Frame.bytes_eq, ← List.append_nil (beBytes 2 _)]
      exact slice_append (0xA7 :: f.checked) (beBytes 2 _) []
    have hsource := f.source.isLt
    have hkind := f.kind.isLt
    refine ⟨hlength, ?_, ?_, ?_, ?_, ?_, ?_, hchecked, ?_⟩
    · exact f.bytes_eq_packed ▸ fieldAt_packed (i := 0) rfl (by decide) _
    · exact f.bytes_eq_packed ▸ fieldAt_packed (i := 1) rfl (by omega) _
    · exact f.bytes_eq_packed ▸ fieldAt_packed (i := 2) rfl f.generation.isLt _
    · exact f.bytes_eq_packed ▸ fieldAt_packed (i := 3) rfl f.sequence.isLt _
    · exact f.bytes_eq_packed ▸ fieldAt_packed (i := 4) rfl (by omega) _
    · rw [f.bytes_eq_packed]
      exact slice_append (packed _) f.body _
    · rw [fieldAt, hcheck, beNat_beBytes (crc f.checked).isLt]
  · intro step
    have hstep : crcStep = step := funext crcStep_eq
    refine ⟨rfl, fun bytes b => ?_⟩
    rw [crc_append_byte, crcByte, setWidth_shiftLeft_eq_append, hstep]
    rfl

end Sys2Proof.Machine
end

section
/-! PROOFS. The frame built for a subject: its header, and its body field by field as a receiver's form check reads it (06 sections
6.1, 6.4; 10 sections 10.1, 10.4). -/

namespace Sys2Proof.Machine

/-! ### The form check by fields (R108, R112) -/

theorem parsePresence_of_fields {b : List Byte} {role : Role} (hlength : b.length = 10)
    (hrole : Role.ofCode (fieldAt b 0 1) = some role) (hne : role ≠ .empty)
    (hstate : fieldAt b 1 1 = 3 ∨ fieldAt b 1 1 = 4) (hcount : fieldAt b 8 1 ≤ 24) :
    parsePresence b = some (.presence
      { role := role, final := decide (fieldAt b 1 1 = 4), number := fieldAt b 2 4, revision := fieldAt b 6 2
        count := fieldAt b 8 1, mask := BitVec.ofNat 8 (fieldAt b 9 1) }) := by
  simp only [fieldAt] at *
  rw [parsePresence, if_pos hlength, hrole]
  cases role with
  | empty => exact absurd rfl hne
  | ship | shoreTanks | shoreMeters | survey => exact if_pos ⟨hstate, hcount⟩

theorem parseFigure_of_fields {b : List Byte} (hmask : fieldAt b 3 1 < 8)
    (hlength : b.length = 7 + 18 * (maskEpochs (fieldAt b 3 1)).length) :
    parseFigure b = some (.figure (fieldAt b 0 1) (fieldAt b 1 1) (fieldAt b 2 1) (fieldAt b 4 3)
      (parseBlocks (maskEpochs (fieldAt b 3 1)) (b.drop 7))) :=
  if_pos ⟨by omega, hmask, hlength⟩

theorem parseWithdraw_of_fields {b : List Byte} (hlength : b.length = 3) :
    parseWithdraw b = some (.withdraw (fieldAt b 0 1) (fieldAt b 1 1) (fieldAt b 2 1)) :=
  if_pos hlength

theorem parseAttest_of_fields {b : List Byte} (hlength : b.length = 10) :
    parseAttest b = some (.attest (fieldAt b 0 1) (fieldAt b 1 1) { count := fieldAt b 2 2, sum := fieldAt b 4 6 }) :=
  if_pos hlength

/-! ### The bodies as fields (section 10.1) -/

theorem presenceBytes_eq (role : Role) (final : Bool) (number revision count : Nat) (mask : BitVec 8) :
    presenceBytes role final number revision count mask =
      packed [(1, role.code), (1, if final then 4 else 3), (4, number), (2, revision), (1, count), (1, mask.toNat)] := by
  simp [presenceBytes, packed, beBytes_one mask.toNat]

theorem withdrawBytes_eq (p : OwnPoint) : withdrawBytes p = packed [(1, p.number), (1, p.kind.code), (1, p.parcel)] := by
  simp [withdrawBytes, packed]

theorem attestBytes_eq (parcel : Nat) (e : Epoch) (sum : Summary) :
    attestBytes parcel e sum = packed [(1, parcel), (1, e.code), (2, sum.count), (6, sum.sum)] := by
  simp [attestBytes, packed]

theorem figureBytes_eq (p : OwnPoint) : figureBytes p =
    packed [(1, p.number), (1, p.kind.code), (1, p.parcel), (1, p.slots.mask), (3, p.meterFactor)]
      ++ p.slots.held.flatMap blockBytes := by
  simp [figureBytes, packed]

theorem blockBytes_eq (o : Observation) : blockBytes o =
    packed [(2, o.revision), (4, o.raw.quantity), (4, o.raw.water), (2, (BitVec.ofInt 16 o.raw.temperature).toNat),
      (4, o.std.gsv), (2, o.std.quals.mask)] := by
  simp [blockBytes, packed, beSigned]

theorem blockBytes_length (o : Observation) : (blockBytes o).length = 18 := by
  rw [blockBytes_eq, packed_length]
  rfl

theorem flatMap_blockBytes_length (l : List Observation) : (l.flatMap blockBytes).length = 18 * l.length := by
  simp [blockBytes_length, Nat.mul_comm]

/-! ### Codes and masks (section 10.4) -/

theorem Role.code_lt (r : Role) : r.code < 256 := by cases r <;> decide

theorem PointKind.code_lt (k : PointKind) : k.code < 256 := by cases k <;> decide

theorem Epoch.code_lt (e : Epoch) : e.code < 256 := by cases e <;> decide

/-- The bits of the slot mask are the slots held (section 10.1). -/
theorem Slots.mask_bits {α : Type} (s : Slots α) : s.mask < 8 ∧ s.mask.testBit 0 = s.opening.isSome
    ∧ s.mask.testBit 1 = s.interim.isSome ∧ s.mask.testBit 2 = s.closing.isSome := by
  unfold Slots.mask
  cases s.opening.isSome <;> cases s.interim.isSome <;> cases s.closing.isSome <;> decide

theorem maskEpochs_mask {α : Type} (s : Slots α) : maskEpochs s.mask = Epoch.inOrder.filter (fun e => (s.get e).isSome) := by
  obtain ⟨-, hopening, hinterim, hclosing⟩ := s.mask_bits
  refine List.filter_congr fun e _ => ?_
  cases e
  · exact hopening
  · exact hinterim
  · exact hclosing

theorem ObsQuals.mask_bits (q : ObsQuals) : q.mask < 32 ∧ q.mask.testBit 0 = q.waterClamp ∧ q.mask.testBit 1 = q.dtClamp
    ∧ q.mask.testBit 2 = q.vcfClamp ∧ q.mask.testBit 3 = q.gsvSat ∧ q.mask.testBit 4 = q.massSat := by
  have h := q.ofMask_mask
  unfold ObsQuals.ofMask at h
  split at h
  · next hlt =>
    have heq := Option.some.inj h
    exact ⟨hlt, congrArg (·.waterClamp) heq, congrArg (·.dtClamp) heq, congrArg (·.vcfClamp) heq, congrArg (·.gsvSat) heq,
      congrArg (·.massSat) heq⟩
  · cases h

theorem foldl_parcelMask_getLsbD (ps : List Nat) (m : BitVec 8) {i : Nat} (hi : i < 8) :
    (ps.foldl (fun m p => m ||| BitVec.ofNat 8 (2 ^ (p - 1))) m).getLsbD i =
      (m.getLsbD i || ps.any (fun p => decide (p - 1 = i))) := by
  induction ps generalizing m with
  | nil => simp
  | cons p ps ih =>
    rw [List.foldl_cons, ih, BitVec.getLsbD_or, BitVec.getLsbD_ofNat, Nat.testBit_two_pow]
    simp [hi, Bool.or_assoc]

/-- Bit p − 1 of the parcel mask for parcel p (section 10.1). -/
theorem parcelMask_getLsbD {ps : List Nat} (h : ∀ p ∈ ps, 1 ≤ p) {i : Nat} (hi : i < 8) :
    (parcelMask ps).getLsbD i = true ↔ ∃ p ∈ ps, p = i + 1 := by
  rw [parcelMask, foldl_parcelMask_getLsbD ps 0 hi, show (0 : BitVec 8).getLsbD i = false from BitVec.getLsbD_zero,
    Bool.false_or, List.any_eq_true]
  refine exists_congr fun p => and_congr_right fun hp => ?_
  have := h p hp
  rw [decide_eq_true_eq]
  omega

/-! ### One observation block (R14, section 10.1) -/

/-- The fields of an observation fit those of a block. -/
abbrev Observation.Fits (o : Observation) : Prop :=
  o.revision ≤ 65535 ∧ o.raw.quantity ≤ 4000000000 ∧ o.raw.water ≤ 4000000000
    ∧ -4000 ≤ o.raw.temperature ∧ o.raw.temperature ≤ 15000 ∧ o.std.gsv ≤ 4294967295

/-- What a block carries of an observation. -/
def Observation.carried (o : Observation) : BlockBody :=
  { revision := o.revision, raw := o.raw, sourceGsv := o.std.gsv, sourceMask := o.std.quals.mask }

theorem toInt_ofInt16 {t : Int} (hlow : -4000 ≤ t) (hhigh : t ≤ 15000) : (BitVec.ofInt 16 t).toInt = t := by
  rw [BitVec.toInt_ofInt]
  exact Int.bmod_eq_of_le (by omega) (by omega)

theorem blockBytes_fields {o : Observation} (h : o.Fits) (tail : List Byte) :
    let field := fieldAt (blockBytes o ++ tail)
    field 0 2 = o.revision ∧ field 2 4 = o.raw.quantity ∧ field 6 4 = o.raw.water
      ∧ (BitVec.ofNat 16 (field 10 2)).toInt = o.raw.temperature ∧ field 12 4 = o.std.gsv
      ∧ field 16 2 = o.std.quals.mask := by
  obtain ⟨hrevision, hquantity, hwater, hlow, hhigh, hgsv⟩ := h
  obtain ⟨hmask, -⟩ := o.std.quals.mask_bits
  have hword := (BitVec.ofInt 16 o.raw.temperature).isLt
  rw [blockBytes_eq]
  refine ⟨fieldAt_packed (i := 0) rfl (by omega) _, fieldAt_packed (i := 1) rfl (by omega) _,
    fieldAt_packed (i := 2) rfl (by omega) _, ?_, fieldAt_packed (i := 4) rfl (by omega) _,
    fieldAt_packed (i := 5) rfl (by omega) _⟩
  have htemperature := fieldAt_packed (i := 3) (fields := [(2, o.revision), (4, o.raw.quantity), (4, o.raw.water),
    (2, (BitVec.ofInt 16 o.raw.temperature).toNat), (4, o.std.gsv), (2, o.std.quals.mask)]) rfl hword tail
  refine (congrArg (fun n => (BitVec.ofNat 16 n).toInt) htemperature).trans ?_
  rw [BitVec.ofNat_toNat, BitVec.setWidth_eq, toInt_ofInt16 hlow hhigh]

theorem parseBlock_blockBytes {o : Observation} (h : o.Fits) (tail : List Byte) :
    parseBlock (blockBytes o ++ tail) = o.carried := by
  obtain ⟨hrevision, hquantity, hwater, htemperature, hgsv, hmask⟩ := blockBytes_fields h tail
  simp only [fieldAt] at *
  rw [parseBlock, hrevision, hquantity, hwater, beInt16, htemperature, hgsv, hmask]
  rfl

/-- The blocks of a FIGURE body are read back in epoch order. -/
theorem parseBlocks_blockBytes (slots : Slots Observation) {es : List Epoch} (h : ∀ e ∈ es, ∀ o ∈ slots.get e, o.Fits) :
    parseBlocks (es.filter (fun e => (slots.get e).isSome)) ((es.filterMap slots.get).flatMap blockBytes) =
      es.filterMap (fun e => (slots.get e).map (fun o => (e, o.carried))) := by
  induction es with
  | nil => rfl
  | cons e es ih =>
    have hrest := ih fun d hd => h d (List.mem_cons_of_mem _ hd)
    cases hslot : slots.get e with
    | none => simpa [hslot] using hrest
    | some o =>
      have hfits : o.Fits := h e (List.mem_cons_self ..) o hslot
      rw [List.filter_cons_of_pos (by simp [hslot]), List.filterMap_cons_some hslot, List.flatMap_cons, parseBlocks,
        parseBlock_blockBytes hfits, List.drop_left' (blockBytes_length o), hrest, List.filterMap_cons_some (by rw [hslot]; rfl)]

/-- The fields of the i-th block of a body stand at 18 bytes a block behind the header. -/
theorem fieldAt_block {header : List Byte} (hheader : header.length = 7) {l : List Observation} {i : Nat} {o : Observation}
    (h : l[i]? = some o) : ∃ tail, ∀ offset n,
      fieldAt (header ++ l.flatMap blockBytes) (7 + 18 * i + offset) n = fieldAt (blockBytes o ++ tail) offset n := by
  have hi : i < l.length := (List.getElem?_eq_some_iff.1 h).1
  have hsplit : l = l.take i ++ o :: l.drop (i + 1) := by
    conv_lhs => rw [← List.take_append_drop i l, List.drop_eq_getElem_cons hi]
    rw [(List.getElem?_eq_some_iff.1 h).2]
  have hbefore : (header ++ (l.take i).flatMap blockBytes).length = 7 + 18 * i := by
    rw [List.length_append, hheader, flatMap_blockBytes_length, List.length_take, Nat.min_eq_left hi.le]
  refine ⟨(l.drop (i + 1)).flatMap blockBytes, fun offset n => ?_⟩
  have hbytes : header ++ l.flatMap blockBytes = (header ++ (l.take i).flatMap blockBytes)
      ++ (blockBytes o ++ (l.drop (i + 1)).flatMap blockBytes) := by
    conv_lhs => rw [hsplit]
    simp only [List.flatMap_append, List.flatMap_cons, List.append_assoc]
  rw [hbytes, fieldAt, ← hbefore, slice_append_left]
  rfl

/-! ### The frame of a subject (R107, R126, R128) -/

/-- A frame of this node, with its kind and body. -/
def State.ownFrame (s : State) (kind : BitVec 4) (body : List Byte) : Frame :=
  { kind := kind, source := BitVec.ofNat 4 s.ownSlot, generation := s.pub.generation, sequence := s.pub.sequence, body := body }

theorem State.frameOf_of_body {s : State} {sub : Subject} {kind : BitVec 4} {body : List Byte}
    (h : s.bodyOf sub = some (kind, body)) : s.frameOf sub = some (s.ownFrame kind body) := by
  rw [State.frameOf, h]
  rfl

theorem State.frameOf_of_no_body {s : State} {sub : Subject} (h : s.bodyOf sub = none) : s.frameOf sub = none := by
  rw [State.frameOf, h]
  rfl

section Publishing

variable {s : State} {sh : Sheet}

theorem State.header?_of_sheet (hsheet : s.sheet.sheet = some sh) : s.header? = some sh.header := congrArg _ hsheet

/-- Every frame carries the own slot, generation and sequence (R128). -/
theorem State.ownFrame_header (hsheet : s.sheet.sheet = some sh) (hslot : sh.header.ownSlot < 16) (kind : BitVec 4)
    (body : List Byte) : (s.ownFrame kind body).source.toNat = sh.header.ownSlot
      ∧ (s.ownFrame kind body).generation = s.pub.generation ∧ (s.ownFrame kind body).sequence = s.pub.sequence := by
  have hown : s.ownSlot = sh.header.ownSlot := by
    rw [State.ownSlot, State.header?_of_sheet hsheet]
    rfl
  refine ⟨?_, rfl, rfl⟩
  rw [State.ownFrame, hown]
  exact Nat.mod_eq_of_lt hslot

theorem State.bodyOf_presence (hsheet : s.sheet.sheet = some sh) :
    let mine := s.table.own.filter (fun p => !p.withdrawn)
    s.bodyOf .presence = some (1, presenceBytes (sh.roster.getD sh.header.ownSlot Role.empty) (decide (s.sheet.node = .final))
      sh.header.number sh.header.revision mine.length (parcelMask (mine.map (·.parcel)))) := by
  have hrole (slot : Nat) : s.rosterRole slot = sh.roster.getD slot .empty := by
    rw [State.rosterRole, State.roster, hsheet]
    rfl
  simp only [State.bodyOf, State.header?_of_sheet hsheet, hrole]

theorem State.bodyOf_point (hsheet : s.sheet.sheet = some sh) {k : Nat} {p : OwnPoint} (hpoint : s.table.point? k = some p) :
    s.bodyOf (.point k) = if p.withdrawn then some (3, withdrawBytes p)
      else if p.slots.held.isEmpty then none else some (2, figureBytes p) := by
  simp only [State.bodyOf, State.header?_of_sheet hsheet, hpoint]

theorem State.bodyOf_attest (hsheet : s.sheet.sheet = some sh) {p : Nat} {e : Epoch} {r : AttestRecord}
    (hrecord : s.attest.find? (fun q => decide (q.parcel = p ∧ q.epoch = e)) = some r) :
    s.bodyOf (.attest p e) = r.summary.map (fun sum => (4, attestBytes p e sum)) := by
  simp only [State.bodyOf, State.header?_of_sheet hsheet, hrecord]

end Publishing

/-! ### The bodies read back -/

/-- A PRESENCE body's fields, and the form check of them. -/
theorem presenceBytes_reads {role : Role} {number revision count : Nat} (hnumber : number ≤ 4294967295)
    (hrevision : revision ≤ 65535) (hcount : count ≤ 24) (final : Bool) (mask : BitVec 8) :
    let b := presenceBytes role final number revision count mask
    b.length = 10 ∧ fieldAt b 0 1 = role.code ∧ fieldAt b 1 1 = (if final then 4 else 3) ∧ fieldAt b 2 4 = number
      ∧ fieldAt b 6 2 = revision ∧ fieldAt b 8 1 = count ∧ fieldAt b 9 1 = mask.toNat
      ∧ (role ≠ .empty → parsePresence b = some (.presence
        { role := role, final := final, number := number, revision := revision, count := count, mask := mask })) := by
  intro b
  have hb : b = _ ++ [] := (presenceBytes_eq role final number revision count mask).trans (List.append_nil _).symm
  have hlength : b.length = 10 := by
    rw [hb, List.length_append, packed_length]
    rfl
  have hrole : fieldAt b 0 1 = role.code := hb ▸ fieldAt_packed (i := 0) rfl role.code_lt _
  have hstate : fieldAt b 1 1 = (if final then 4 else 3) := hb ▸ fieldAt_packed (i := 1) rfl (by split <;> decide) _
  have hnumber : fieldAt b 2 4 = number := hb ▸ fieldAt_packed (i := 2) rfl (by omega) _
  have hrevision : fieldAt b 6 2 = revision := hb ▸ fieldAt_packed (i := 3) rfl (by omega) _
  have hcounts : fieldAt b 8 1 = count := hb ▸ fieldAt_packed (i := 4) rfl (by omega) _
  have hmask : fieldAt b 9 1 = mask.toNat := hb ▸ fieldAt_packed (i := 5) rfl mask.isLt _
  refine ⟨hlength, hrole, hstate, hnumber, hrevision, hcounts, hmask, fun hne => ?_⟩
  have hcode : Role.ofCode (fieldAt b 0 1) = some role := by rw [hrole, Role.ofCode_code]
  have hrunning : fieldAt b 1 1 = 3 ∨ fieldAt b 1 1 = 4 := by
    rw [hstate]
    cases final <;> decide
  have hfinal : decide (fieldAt b 1 1 = 4) = final := by
    rw [hstate]
    cases final <;> rfl
  rw [parsePresence_of_fields hlength hcode hne hrunning (hcounts.trans_le hcount), hfinal, hnumber, hrevision, hcounts, hmask,
    BitVec.ofNat_toNat, BitVec.setWidth_eq]

theorem withdrawBytes_reads {p : OwnPoint} (hnumber : p.number < 24) (hparcel : p.parcel ≤ 8) :
    let b := withdrawBytes p
    b.length = 3 ∧ fieldAt b 0 1 = p.number ∧ fieldAt b 1 1 = p.kind.code ∧ fieldAt b 2 1 = p.parcel
      ∧ parseWithdraw b = some (.withdraw p.number p.kind.code p.parcel) := by
  intro b
  have hb : b = _ ++ [] := (withdrawBytes_eq p).trans (List.append_nil _).symm
  have hlength : b.length = 3 := by
    rw [hb, List.length_append, packed_length]
    rfl
  have hpoint : fieldAt b 0 1 = p.number := hb ▸ fieldAt_packed (i := 0) rfl (by omega) _
  have hkind : fieldAt b 1 1 = p.kind.code := hb ▸ fieldAt_packed (i := 1) rfl p.kind.code_lt _
  have hparcel : fieldAt b 2 1 = p.parcel := hb ▸ fieldAt_packed (i := 2) rfl (by omega) _
  exact ⟨hlength, hpoint, hkind, hparcel, by rw [parseWithdraw_of_fields hlength, hpoint, hkind, hparcel]⟩

theorem attestBytes_reads {p : Nat} {sum : Summary} (hparcel : p ≤ 8) (hcount : sum.count ≤ 65535) (hsum : sum.sum < 2 ^ 48)
    (e : Epoch) :
    let b := attestBytes p e sum
    b.length = 10 ∧ fieldAt b 0 1 = p ∧ fieldAt b 1 1 = e.code ∧ fieldAt b 2 2 = sum.count ∧ fieldAt b 4 6 = sum.sum
      ∧ parseAttest b = some (.attest p e.code sum) := by
  intro b
  have hb : b = _ ++ [] := (attestBytes_eq p e sum).trans (List.append_nil _).symm
  have hlength : b.length = 10 := by
    rw [hb, List.length_append, packed_length]
    rfl
  have hparcel : fieldAt b 0 1 = p := hb ▸ fieldAt_packed (i := 0) rfl (by omega) _
  have hepoch : fieldAt b 1 1 = e.code := hb ▸ fieldAt_packed (i := 1) rfl e.code_lt _
  have hcount : fieldAt b 2 2 = sum.count := hb ▸ fieldAt_packed (i := 2) rfl (by omega) _
  have hsum : fieldAt b 4 6 = sum.sum := hb ▸ fieldAt_packed (i := 3) rfl (by omega) _
  exact ⟨hlength, hparcel, hepoch, hcount, hsum, by rw [parseAttest_of_fields hlength, hparcel, hepoch, hcount, hsum]⟩

theorem Slots.get_mem_held {α : Type} {s : Slots α} {e : Epoch} {o : α} (h : s.get e = some o) : o ∈ s.held :=
  List.mem_filterMap.2 ⟨e, by cases e <;> decide, h⟩

theorem Slots.held_length {α : Type} (s : Slots α) : s.held.length = (maskEpochs s.mask).length := by
  rw [maskEpochs_mask]
  simp only [Slots.held, Epoch.inOrder, List.filterMap_cons, List.filter_cons]
  cases s.get .opening <;> cases s.get .interim <;> cases s.get .closing <;> rfl

theorem figureBytes_reads {p : OwnPoint} (hnumber : p.number < 24) (hparcel : p.parcel ≤ 8) (hfactor : p.meterFactor ≤ 110000)
    (hfits : ∀ o ∈ p.slots.held, o.Fits) :
    let b := figureBytes p
    b.length = 7 + 18 * p.slots.held.length ∧ fieldAt b 0 1 = p.number ∧ fieldAt b 1 1 = p.kind.code
      ∧ fieldAt b 2 1 = p.parcel ∧ fieldAt b 3 1 = p.slots.mask ∧ fieldAt b 4 3 = p.meterFactor
      ∧ parseFigure b = some (.figure p.number p.kind.code p.parcel p.meterFactor
        (Epoch.inOrder.filterMap (fun e => (p.slots.get e).map (fun o => (e, o.carried))))) := by
  intro b
  have hb : b = _ := figureBytes_eq p
  have hlength : b.length = 7 + 18 * p.slots.held.length := by
    rw [hb, List.length_append, packed_length, flatMap_blockBytes_length]
    rfl
  obtain ⟨hlt, -⟩ := p.slots.mask_bits
  have hpoint : fieldAt b 0 1 = p.number := hb ▸ fieldAt_packed (i := 0) rfl (by omega) _
  have hkind : fieldAt b 1 1 = p.kind.code := hb ▸ fieldAt_packed (i := 1) rfl p.kind.code_lt _
  have hparcel : fieldAt b 2 1 = p.parcel := hb ▸ fieldAt_packed (i := 2) rfl (by omega) _
  have hmask : fieldAt b 3 1 = p.slots.mask := hb ▸ fieldAt_packed (i := 3) rfl (by omega) _
  have hfactor : fieldAt b 4 3 = p.meterFactor := hb ▸ fieldAt_packed (i := 4) rfl (by omega) _
  have hblocks : b.drop 7 = p.slots.held.flatMap blockBytes := by
    rw [hb]
    exact List.drop_left' (packed_length _)
  refine ⟨hlength, hpoint, hkind, hparcel, hmask, hfactor, ?_⟩
  rw [parseFigure_of_fields (hmask ▸ hlt) (by rw [hlength, hmask, p.slots.held_length]), hpoint, hkind, hparcel, hmask, hfactor,
    hblocks, maskEpochs_mask]
  exact congrArg (fun blocks => some (Body.figure _ _ _ _ blocks))
    (parseBlocks_blockBytes p.slots fun e _ o ho => hfits o (Slots.get_mem_held ho))

/-- Settles O39: the frame of each subject, and its body read back. -/
theorem framesSayWhatTheirSubjectStandsFor : Obligations.FramesSayWhatTheirSubjectStandsFor := by
  unfold Obligations.FramesSayWhatTheirSubjectStandsFor
  intro kind s sh hsheet hslot hnumber hrevision hpoints hown own role mine
  have hheader := State.ownFrame_header hsheet hslot
  have hkind (k : PointKind) : k.code = kind k := by cases k <;> rfl
  refine ⟨fun hrole => ?_, fun k p hfind => ?_, fun p e r hfind hparcel => ?_⟩
  · have hmine : mine.length ≤ 24 := (List.length_filter_le ..).trans hpoints
    obtain ⟨hlength, hrolef, hstate, hnumberf, hrevisionf, hcount, hmask, hform⟩ :=
      presenceBytes_reads (role := role) hnumber hrevision hmine (decide (s.sheet.node = .final))
        (parcelMask (mine.map (·.parcel)))
    refine ⟨_, _, State.frameOf_of_body (State.bodyOf_presence hsheet), hheader .., hform hrole, rfl, hlength,
      hrolef.trans ?_, hstate.trans ?_, hnumberf, hrevisionf, hcount, hmask, fun i hi => ?_⟩
    · cases role <;> rfl
    · simp only [decide_eq_true_eq]
    · rw [parcelMask_getLsbD ?_ hi]
      · simp
      · intro n hn
        obtain ⟨p, hp, rfl⟩ := List.mem_map.1 hn
        exact (hown p (List.mem_of_mem_filter hp)).2.1
  · obtain ⟨hlt, -, hparcel, hfactor, hfits⟩ := hown p (List.mem_of_find?_eq_some hfind)
    obtain rfl : p.number = k := by simpa using List.find?_some hfind
    have hbody := State.bodyOf_point hsheet hfind
    refine ⟨fun hwithdrawn => ?_, fun hstands hnone => ?_, fun hstands hholds => ?_⟩
    · rw [if_pos hwithdrawn] at hbody
      obtain ⟨hlength, hpoint, hkindf, hparcelf, hform⟩ := withdrawBytes_reads hlt hparcel
      exact ⟨_, State.frameOf_of_body hbody, hheader .., hform, rfl, hlength, hpoint, hkindf.trans (hkind _), hparcelf⟩
    · refine State.frameOf_of_no_body (hbody.trans ?_)
      rw [hstands, hnone]
      rfl
    · rw [if_neg (by simp [hstands]), if_neg (by simpa using hholds)] at hbody
      obtain ⟨hlength, hpoint, hkindf, hparcelf, hmask, hfactorf, hform⟩ := figureBytes_reads hlt hparcel hfactor hfits
      obtain ⟨hmasklt, hopening, hinterim, hclosing⟩ := p.slots.mask_bits
      refine ⟨_, _, State.frameOf_of_body hbody, hheader .., hform, rfl, rfl, hlength, hpoint, hkindf.trans (hkind _), hparcelf,
        ?_, ?_, ?_, ?_, hfactorf, fun i o ho => ?_⟩
      · exact (congrArg (·.testBit 0) hmask).trans hopening
      · exact (congrArg (·.testBit 1) hmask).trans hinterim
      · exact (congrArg (·.testBit 2) hmask).trans hclosing
      · exact hmask.trans_lt hmasklt
      · intro field
        have hseven : (packed [(1, p.number), (1, p.kind.code), (1, p.parcel), (1, p.slots.mask),
            (3, p.meterFactor)]).length = 7 := packed_length _
        obtain ⟨tail, htail⟩ := fieldAt_block hseven ho
        have hfield : field = fieldAt (blockBytes o ++ tail) := by
          funext offset n
          rw [← htail, ← figureBytes_eq]
          rfl
        obtain ⟨hrevisionf, hquantity, hwater, htemperature, hgsv, hquals⟩ :=
          blockBytes_fields (hfits o (List.mem_of_getElem? ho)) tail
        obtain ⟨hqualslt, hclamp, hdt, hvcf, hgsvsat, hmasssat⟩ := o.std.quals.mask_bits
        rw [hfield, hquals]
        exact ⟨hrevisionf, hquantity, hwater, htemperature, hgsv, hclamp, hdt, hvcf, hgsvsat, hmasssat, hqualslt⟩
  · have hbody := State.bodyOf_attest hsheet hfind
    refine ⟨fun hnone => State.frameOf_of_no_body (by rw [hbody, hnone]; rfl), fun sum hsum hcount htotal => ?_⟩
    rw [show r.summary = some sum from hsum] at hbody
    obtain ⟨hlength, hparcelf, hepoch, hcountf, hsumf, hform⟩ := attestBytes_reads hparcel hcount htotal e
    refine ⟨_, State.frameOf_of_body hbody, hheader .., hform, rfl, hlength, hparcelf, hepoch.trans ?_, hcountf, hsumf⟩
    cases e <;> rfl

end Sys2Proof.Machine
end

section
/-! PROOFS. What the LAU drives, and that each event of the line keeps a MUTE node from driving anything (05 sections 5.2, 5.3,
5.6). -/

namespace Sys2Proof.Machine

/-! ### What the LAU drives (R90, R92, R101) -/

/-- The round phases in which the node drives the line (R89). -/
def LineState.drives : LineState → Bool
  | .round (.sending _ _) | .round .clashMark => true
  | .off | .seek | .window | .round .awaiting | .round .receiving => false

theorem Lau.lde_eq (l : Lau) : l.lde = (l.claiming || l.line.drives) := by
  rcases h : l.line with _ | _ | _ | phase
  case round => cases phase <;> simp [Lau.lde, h, LineState.drives]
  all_goals simp [Lau.lde, h, LineState.drives]

/-- What `LineInv` says of the LAU alone: the claim slot is driven in a window only, and a MUTE node drives nothing. -/
def Lau.Sound (l : Lau) : Prop := (l.claiming = true → l.line = .window) ∧ (l.mute = true → l.lde = false)

theorem Lau.Sound.of_not_claiming {l : Lau} (hclaiming : l.claiming = false) (hdrives : l.mute = true → l.line.drives = false) :
    l.Sound :=
  ⟨by simp [hclaiming], fun hmute => by rw [l.lde_eq, hclaiming, hdrives hmute, Bool.or_false]⟩

theorem Lau.Sound.not_claiming {l : Lau} (h : l.Sound) (hline : l.line ≠ .window) : l.claiming = false :=
  Bool.eq_false_iff.2 (mt h.1 hline)

/-- A node that drives the line is not MUTE. -/
theorem Lau.Sound.not_mute {l : Lau} (h : l.Sound) (hdrives : l.line.drives = true) : l.mute = false :=
  Bool.eq_false_iff.2 fun hmute => by
    have hreleased := h.2 hmute
    rw [l.lde_eq, hdrives, Bool.or_true] at hreleased
    cases hreleased

/-- What an event of the line keeps: the LAU is OFF after it exactly if it was before, and it stays sound. -/
structure Lau.Follows (l m : Lau) : Prop where
  off : m.line = .off ↔ l.line = .off
  sound : l.Sound → m.Sound

theorem Lau.Follows.refl (l : Lau) : l.Follows l := ⟨.rfl, id⟩

/-- A change of counts, marks and the pointer. -/
theorem Lau.Follows.of_same_line {l m : Lau} (hline : m.line = l.line) (hclaiming : m.claiming = l.claiming)
    (hmute : m.mute = l.mute) : l.Follows m :=
  ⟨by rw [hline], fun h => by
    unfold Lau.Sound
    rw [m.lde_eq, hline, hclaiming, hmute, ← l.lde_eq]
    exact h⟩

/-- A change of the line outside its OFF state that leaves no claim driven. -/
theorem Lau.Follows.of_on {l m : Lau} (hl : l.line ≠ .off) (hm : m.line ≠ .off) (hclaiming : l.Sound → m.claiming = false)
    (hdrives : l.Sound → m.mute = true → m.line.drives = false) : l.Follows m :=
  ⟨iff_of_false hm hl, fun h => .of_not_claiming (hclaiming h) (hdrives h)⟩

theorem Lau.toSeek_follows {l : Lau} (h : l.line ≠ .off) (quiet : Nat) : l.Follows (l.toSeek quiet) :=
  .of_on h (by simp [Lau.toSeek]) (fun _ => rfl) fun _ _ => rfl

/-- A change of the line within a round. -/
theorem Lau.Follows.of_round {l m : Lau} {phase : RoundPhase} (hl : l.line = .round phase) (hm : m.line ≠ .off)
    (hclaiming : m.claiming = l.claiming) (hdrives : l.Sound → m.mute = true → m.line.drives = false) : l.Follows m :=
  .of_on (by simp [hl]) hm (fun h => hclaiming.trans (h.not_claiming (by simp [hl]))) hdrives

theorem Lau.dominantRead_follows (startBit : Bool) (l : Lau) : l.Follows (l.dominantRead startBit) := by
  by_cases hoff : l.line = .off
  · rw [Lau.dominantRead_of_off hoff]
    exact .refl l
  · by_cases hawaiting : l.line = .round .awaiting
    · rw [Lau.dominantRead_of_awaiting hawaiting]
      refine .of_round hawaiting (by simp) rfl fun _ _ => ?_
      cases startBit <;> rfl
    · rw [Lau.dominantRead_elsewhere hoff hawaiting]
      exact .of_same_line rfl rfl rfl

theorem Lau.quietReached_follows (l : Lau) : l.Follows l.quietReached := by
  unfold Lau.quietReached
  split
  case h_1 hseek | h_2 hawaiting =>
    split
    · exact .of_on (by simp [*]) (by simp [Lau.openWindow]) (fun _ => rfl) fun _ _ => rfl
    · exact .refl l
  all_goals exact .refl l

/-- A MUTE node does not claim (R92, R101). -/
theorem Lau.decideClaim_follows (hasJob : Bool) (l : Lau) : l.Follows (l.decideClaim hasJob) := by
  unfold Lau.decideClaim
  split
  · next hdue =>
    refine ⟨.rfl, fun _ => ⟨fun _ => hdue.1, fun hmute => ?_⟩⟩
    have hmuted : l.mute = true := hmute
    simp [Lau.lde_eq, hmuted, hdue.1, LineState.drives]
  · exact .refl l

theorem Lau.sampleSlot_follows (own slot : Nat) (dominant : Bool) (l : Lau) :
    l.Follows (l.sampleSlot own slot dominant) := by
  by_cases hline : l.line = .window
  · rw [Lau.sampleSlot_of_window hline]
    refine ⟨.rfl, fun h => ⟨fun _ => hline, fun hmute => ?_⟩⟩
    have hreleased := h.2 hmute
    simp_all [Lau.lde_eq]
  · rw [Lau.sampleSlot_outside hline]
    exact .refl l

theorem Lau.endWindow_follows (l : Lau) : l.Follows l.endWindow := by
  unfold Lau.endWindow
  split
  · next hline =>
    split
    · exact Lau.toSeek_follows (by simp [hline]) 0
    · exact .of_on (by simp [hline]) (by simp [Lau.newTurn]) (fun _ => rfl) fun _ _ => rfl
  · exact .refl l

theorem Lau.turnTimeout_follows (l : Lau) : l.Follows l.turnTimeout := by
  unfold Lau.turnTimeout
  split
  · next hline _ => exact .of_round hline (by simp [Lau.newTurn]) rfl fun _ _ => rfl
  · exact .refl l

theorem Lau.tick_follows (l : Lau) : l.Follows l.tick := by
  unfold Lau.tick
  split
  case h_1 => exact .refl l
  case h_2 frame driven hline =>
    refine .of_round hline (by simp) rfl fun h hmuted => ?_
    exact absurd ((h.not_mute (by rw [hline]; rfl)).symm.trans hmuted) Bool.false_ne_true
  all_goals exact .of_same_line rfl rfl rfl

theorem Lau.heardLevels_follows (bytes : List Byte) (l : Lau) : l.Follows (l.heardLevels bytes) :=
  .of_same_line rfl rfl rfl

theorem Lau.receptionFailed_follows {l : Lau} (h : l.line ≠ .off) : l.Follows l.receptionFailed.1 := by
  rw [Lau.receptionFailed_eq]
  exact .of_on h (by simp [Lau.seeking]) (fun _ => rfl) fun _ _ => rfl

end Sys2Proof.Machine
end

section
/-! PROOFS. The stance: the part of a state that the invariants of the line and of protection read, and what the operations,
requests and events that do not concern it leave of it (02 section 2.3, 05 section 5.2, 07 sections 7.3, 7.4). -/

namespace Sys2Proof.Machine

/-! ### The stance -/

/-- What the invariants of the line and of protection read of a state: the sheet, the permit, the protection of the own points
and the LAU. -/
structure Stance where
  sheet : SheetStore
  permit : Bool
  levels : List Protection
  lau : Lau

def State.stance (s : State) : Stance :=
  { sheet := s.sheet, permit := s.table.permit, levels := s.table.own.map (·.protection), lau := s.lau }

/-- A state that keeps what the blocks hold and the sheet keeps the stance. -/
theorem State.stance_of_blocks {s t : State} (hblocks : t.blocks = s.blocks) (hledger : t.ledger = s.ledger) :
    t.stance = s.stance := by
  simp only [State.blocks, Prod.mk.injEq] at hblocks
  obtain ⟨-, htable, -, -, hlau, -⟩ := hblocks
  have hsheet : t.sheet = s.sheet := congrArg Ledger.sheet hledger
  simp only [State.stance, hsheet, htable, hlau]

/-! ### What the shared operations leave of the stance -/

@[simp] theorem State.raise_stance (k : NoticeKind) (j : Nat) (s : State) : (s.raise k j).stance = s.stance := rfl

@[simp] theorem State.raiseIf_stance (c : Bool) (k : NoticeKind) (j : Nat) (s : State) :
    (s.raiseIf c k j).stance = s.stance := by cases c <;> rfl

@[simp] theorem State.raiseWatch_stance (slot point : Nat) (s : State) : (s.raiseWatch slot point).stance = s.stance := rfl

@[simp] theorem State.requestAll_stance (ps : List Nat) (s : State) : (s.requestAll ps).stance = s.stance := rfl

@[simp] theorem State.request_stance (p : Nat) (s : State) : (s.request p).stance = s.stance := rfl

@[simp] theorem State.give_stance (sub : Subject) (s : State) : (s.give sub).stance = s.stance := rfl

@[simp] theorem State.count_stance (f : IntakeCounters → IntakeCounters) (s : State) : (s.count f).stance = s.stance := rfl

@[simp] theorem State.countMalformed_stance (s : State) : s.countMalformed.stance = s.stance := rfl

@[simp] theorem State.markEpochs_stance (p : Nat) (es : List Epoch) (s : State) : (s.markEpochs p es).stance = s.stance := rfl

@[simp] theorem State.answer_stance (code : ResultCode) (data : List Byte) (s : State) :
    (s.answer code data).stance = s.stance := rfl

@[simp] theorem State.complete_stance (code : ResultCode) (s : State) : (s.complete code).stance = s.stance := rfl

@[simp] theorem State.writePeer_stance (slot : Nat) (changed : Bool) (r : PeerRecord) (s : State) :
    (s.writePeer slot changed r).stance = s.stance := by
  rw [State.writePeer_eq]
  rfl

@[simp] theorem State.updatePeer_stance (slot : Nat) (f : PeerRecord → PeerRecord) (s : State) :
    (s.updatePeer slot f).stance = s.stance := State.writePeer_stance ..

@[simp] theorem State.removeEntries_stance (gone : List PeerEntry) (s : State) :
    (s.removeEntries gone).stance = s.stance := by
  unfold State.removeEntries
  split <;> rfl

@[simp] theorem State.dropStation_stance (slot : Nat) (s : State) : (s.dropStation slot).stance = s.stance :=
  State.removeEntries_stance ..

/-- A request served in every port state that only answers. -/
theorem State.serveRequest_stance {body : State → State} (h : ∀ s : State, (body s).stance = s.stance) (s : State) :
    (s.serveRequest body).stance = s.stance := by
  unfold State.serveRequest
  split
  · rfl
  · exact h s.newSelection

theorem State.serveRequest_answer_stance (code : ResultCode) (data : State → List Byte) (s : State) :
    (s.serveRequest (fun t => t.answer code (data t))).stance = s.stance :=
  State.serveRequest_stance (fun t => t.answer_stance code (data t)) s

theorem State.takeRequest_stance {body : State → State} (h : ∀ s : State, (body s).stance = s.stance) (s : State) :
    (s.takeRequest body).stance = s.stance := by
  refine State.serveRequest_stance (fun t => ?_) s
  split
  · rfl
  · exact h t

/-! ### A frame's way through the Frame Intake (R111 to R122) -/

theorem State.mismatched_stance (slot : Nat) (p : PresenceBody) (s : State) : (s.mismatched slot p).stance = s.stance := by
  unfold State.mismatched
  dsimp only
  split <;> simp

theorem State.acceptFrame_stance (f : Frame) (b : Body) (j : Judgement) (s : State) :
    (s.acceptFrame f b j).stance = s.stance := by
  unfold State.acceptFrame
  dsimp only
  split <;> simp

theorem State.discardFrame_stance (slot : Nat) (s : State) : (s.discardFrame slot).stance = s.stance := by
  unfold State.discardFrame
  split <;> rfl

theorem State.judge_stance (f : Frame) (b : Body) (s : State) : (s.judge f b).1.stance = s.stance := by
  unfold State.judge
  dsimp only
  split
  · exact State.mismatched_stance ..
  · exact State.discardFrame_stance ..
  · exact State.acceptFrame_stance ..

theorem State.startMerge_stance (slot point : Nat) (kind : PointKind) (parcel factor : Nat) (items : List StuItem)
    (s : State) : (s.startMerge slot point kind parcel factor items).stance = s.stance := by
  unfold State.startMerge
  split <;> rfl

theorem State.figureFrame_stance (slot point : Nat) (kind : PointKind) (parcel factor : Nat) (items : List StuItem)
    (s : State) : (s.figureFrame slot point kind parcel factor items).stance = s.stance := by
  unfold State.figureFrame
  split
  · split
    · rfl
    · split
      · rfl
      · exact State.startMerge_stance ..
  · split
    · rfl
    · exact State.startMerge_stance ..

theorem State.withdrawFrame_stance (slot point : Nat) (kind : PointKind) (parcel : Nat) (s : State) :
    (s.withdrawFrame slot point kind parcel).stance = s.stance := by
  unfold State.withdrawFrame
  split
  · rfl
  · split
    · exact State.removeEntries_stance ..
    · rfl

theorem State.route_stance (slot : Nat) (b : Body) (s : State) : (s.route slot b).stance = s.stance := by
  cases b with
  | presence p => rfl
  | figure point kindCode parcel factor blocks =>
    simp only [State.route]
    split
    · split
      · exact State.figureFrame_stance ..
      · rfl
    · rfl
  | withdraw point kindCode parcel =>
    simp only [State.route]
    split
    · exact State.withdrawFrame_stance ..
    · rfl
  | attest parcel epoch theirs =>
    simp only [State.route]
    split <;> rfl

theorem State.handleFrame_stance (f : Frame) (s : State) : (s.handleFrame f).stance = s.stance := by
  unfold State.handleFrame
  extract_lets slot
  split
  · rfl
  · split
    · rfl
    · next b _ =>
      have hjudge := s.judge_stance f b
      split
      · next t heq =>
        rw [heq] at hjudge
        exact (t.route_stance slot b).trans hjudge
      · next t heq =>
        rw [heq] at hjudge
        exact hjudge

theorem State.takeFrame_stance (s : State) : s.takeFrame.stance = s.stance := by
  unfold State.takeFrame
  split
  · rfl
  · split
    · exact State.handleFrame_stance ..
    · rfl

theorem State.frameMerge_stance (s : State) : s.frameMerge.stance = s.stance := by
  unfold State.frameMerge
  split
  · extract_lets old entry table intake merged requested differs flagged
    have hflagged : flagged.stance = s.stance := by
      unfold flagged
      split
      · exact State.updatePeer_stance ..
      · rfl
    rwa [State.markEpochs_stance, State.raiseWatch_stance, State.raiseIf_stance, State.raiseIf_stance]
  · rfl

/-! ### Requests and events that leave the stance -/

theorem State.acknowledge_stance (kind subject : Nat) (s : State) : (s.acknowledge kind subject).stance = s.stance := by
  unfold State.acknowledge
  split
  · rfl
  · split
    · rfl
    · split <;> rfl

theorem State.readPoint_stance (k : Nat) (s : State) : (s.readPoint k).stance = s.stance := by
  unfold State.readPoint
  split
  · rfl
  · split
    · rfl
    · split <;> rfl

theorem State.readEntry_stance (form first second : Nat) (s : State) :
    (s.readEntry form first second).stance = s.stance := by
  unfold State.readEntry
  split
  · rfl
  · extract_lets found
    have hfound (o : Option (List Byte)) : (found o).stance = s.stance := by cases o <;> rfl
    split
    · split
      · exact hfound _
      · rfl
    · exact hfound _
    · rfl

theorem State.readParcel_stance (p : Nat) (s : State) : (s.readParcel p).stance = s.stance := by
  unfold State.readParcel
  split
  · rfl
  · split
    · rfl
    · split <;> rfl

theorem State.readAttest_stance (p epoch : Nat) (s : State) : (s.readAttest p epoch).stance = s.stance := by
  unfold State.readAttest
  split
  · rfl
  · split
    · rfl
    · rfl
    · split <;> rfl

theorem State.walk_stance (index : Nat) (s : State) : (s.walk index).stance = s.stance := by
  unfold State.walk
  split <;> rfl

theorem State.sheetEnd_stance (s : State) : s.sheetEnd.stance = s.stance := by
  unfold State.sheetEnd
  split <;> rfl

theorem State.post_stance (point epoch : Nat) (raw : RawFigures) (s : State) : (s.post point epoch raw).stance = s.stance := by
  unfold State.post
  split <;> rfl

theorem State.withdraw_stance (point : Nat) (s : State) : (s.withdraw point).stance = s.stance := by
  unfold State.withdraw
  split <;> rfl

theorem State.finalise_stance (s : State) : s.finalise.stance = s.stance := by
  unfold State.finalise
  split
  · rfl
  · split
    · rfl
    · split <;> rfl

theorem State.attestRequest_stance (parcel epoch : Nat) (s : State) : (s.attestRequest parcel epoch).stance = s.stance := by
  unfold State.attestRequest
  split
  · rfl
  · split
    · rfl
    · rfl
    · split
      · rfl
      · split <;> rfl

theorem State.restart_stance (s : State) : s.restart.stance = s.stance := by
  unfold State.restart
  split <;> rfl

theorem State.handResults_stance (r : Requester) (results : List StuResult) (s : State) :
    (s.handResults r results).stance = s.stance := by
  unfold State.handResults
  split
  · rfl
  · split <;> rfl

theorem State.stuComputed_stance (s : State) : s.stuComputed.stance = s.stance := by
  unfold State.stuComputed
  split
  · split
    · rfl
    · dsimp only
      split
      · exact State.handResults_stance ..
      · rfl
  · rfl

theorem State.intakeHoldSet_stance (s : State) : s.intakeHoldSet.stance = s.stance := by
  unfold State.intakeHoldSet
  split <;> rfl

theorem State.comparisonComplete_stance (s : State) : s.comparisonComplete.stance = s.stance := by
  unfold State.comparisonComplete
  split
  · dsimp only
    rw [State.raiseIf_stance]
    rfl
  · rfl

theorem State.silenceExpired_stance (slot : Nat) (s : State) : (s.silenceExpired slot).stance = s.stance := by
  unfold State.silenceExpired
  dsimp only
  split
  · exact State.writePeer_stance ..
  · rfl

theorem State.republishExpired_stance (s : State) : s.republishExpired.stance = s.stance := by
  unfold State.republishExpired
  split
  · dsimp only
    split <;> rfl
  · rfl

theorem State.balanceTake_stance (s : State) : s.balanceTake.stance = s.stance := by
  unfold State.balanceTake
  split <;> rfl

theorem State.raiseEdge_stance (p : Nat) (old new : Verdict) (s : State) : (s.raiseEdge p old new).stance = s.stance := by
  unfold State.raiseEdge
  split <;> rfl

theorem State.balanceComplete_stance (s : State) : s.balanceComplete.stance = s.stance := by
  unfold State.balanceComplete
  split
  · split
    · split
      · rfl
      · exact State.raiseEdge_stance ..
      · rfl
      · rfl
    · rfl
  · rfl

end Sys2Proof.Machine
end

section
/-! PROOFS. What each command does to the stance, and the statement that every step keeps the node state, the line and the
protection together (07 sections 7.3, 7.4; 05 sections 5.2, 5.6; 02 section 2.3). -/

namespace Sys2Proof.Machine

/-! ### What a step can do to the stance -/

/-- Every own point is protected (R34). -/
def AllProtected (levels : List Protection) : Prop := ∀ l ∈ levels, l = .throughClosing

/-- One command's, or one bit time's, change to the stance. A power-on reset is apart. -/
inductive State.StanceStep (s : State) : Stance → Prop
  | moved {permit : Bool} {levels : List Protection} {lau : Lau}
      (hpermit : permit = true → s.table.permit = true ∨ s.amendMode ≠ .none)
      (hlevels : AllProtected s.stance.levels → AllProtected levels) (hlau : s.lau.Follows lau) :
      s.StanceStep { s.stance with permit := permit, levels := levels, lau := lau }
  | loading {sheet : SheetStore} (hoff : s.running = false ∨ s.port.busy = some .sheetEnd)
      (hnode : sheet.node = .loading ∨ sheet.node = .loaded ∨ sheet.node = s.sheet.node) :
      s.StanceStep { s.stance with sheet := sheet }
  | started {levels : List Protection} (hstate : s.sheet.node = .loaded) :
      s.StanceStep { s.stance with
        sheet := { s.sheet with node := .active }, levels := levels, lau := { s.lau with line := .seek, quietCount := 0 } }
  | finalised {levels : List Protection} (hbusy : s.port.busy = some .finalise) (hlevels : AllProtected levels) :
      s.StanceStep { s.stance with sheet := { s.sheet with node := .final }, levels := levels }
  | restarted {levels : List Protection} (hbusy : s.port.busy = some .restart) :
      s.StanceStep { s.stance with sheet := { s.sheet with node := .active }, permit := false, levels := levels }
  | linkReset {lau : Lau} (hstate : s.running = true) (hline : lau.line = .seek) (hclaiming : lau.claiming = false) :
      s.StanceStep { s.stance with lau := lau }

theorem State.StanceStep.same (s : State) : s.StanceStep s.stance := .moved .inl id (.refl s.lau)

theorem State.StanceStep.of_eq {s t : State} (h : t.stance = s.stance) : s.StanceStep t.stance := h ▸ .same s

/-- The LAU alone changes. -/
theorem State.StanceStep.of_lau {s : State} {lau : Lau} (h : s.lau.Follows lau) :
    s.StanceStep { s.stance with lau := lau } :=
  .moved .inl id h

/-- A new selection changes nothing that the stance's changes rest on. -/
theorem State.StanceStep.of_newSelection {s : State} {S : Stance} (h : s.newSelection.StanceStep S) : s.StanceStep S := by
  cases h with
  | moved hpermit hlevels hlau => exact .moved hpermit hlevels hlau
  | loading hoff hnode => exact .loading hoff hnode
  | started hstate => exact .started hstate
  | finalised hbusy hlevels => exact .finalised hbusy hlevels
  | restarted hbusy => exact .restarted hbusy
  | linkReset hstate hline hclaiming => exact .linkReset hstate hline hclaiming

/-- A request is ignored, refused with BUSY, or taken. -/
theorem State.takeRequest_stanceStep {body : State → State} (h : ∀ s : State, s.StanceStep (body s).stance) (s : State) :
    s.StanceStep (s.takeRequest body).stance := by
  unfold State.takeRequest State.serveRequest
  split
  · exact .same s
  · dsimp only
    split
    · exact .same s
    · exact (h s.newSelection).of_newSelection

/-! ### The sheet -/

theorem State.sheetBegin_stanceStep (h : Option Header) (s : State) : s.StanceStep (s.sheetBegin h).stance := by
  unfold State.sheetBegin
  split
  · exact .same s
  · next hoff =>
    split
    · exact .same s
    · exact .loading (.inl (by simpa using hoff)) (.inl rfl)

theorem State.define_stanceStep (change : Option (Sheet → Sheet)) (s : State) : s.StanceStep (s.define change).stance := by
  unfold State.define
  split
  · exact .same s
  · next hstate =>
    have hloading : s.sheet.node = .loading := not_not.1 hstate
    split
    · exact .same s
    · exact .loading (.inl (by simp [State.running, hloading])) (.inr (.inr rfl))

theorem State.sheetEndComplete_stanceStep (s : State) : s.StanceStep s.sheetEndComplete.stance := by
  unfold State.sheetEndComplete
  split
  · next hbusy _ =>
    dsimp only
    split
    · exact .loading (.inr hbusy) (.inr (.inl rfl))
    · exact .loading (.inr hbusy) (.inr (.inr rfl))
  · exact .same s

theorem State.start_stanceStep (s : State) : s.StanceStep s.start.stance := by
  unfold State.start
  split
  · next hstate _ => exact .started hstate
  · exact .same s

/-! ### Own points and the permit -/

/-- A change of the own points that keeps each point's protection. -/
theorem map_protection {f : OwnPoint → OwnPoint} (hf : ∀ p, (f p).protection = p.protection) (own : List OwnPoint) :
    (own.map f).map (·.protection) = own.map (·.protection) := by
  rw [List.map_map]
  exact List.map_congr_left fun p _ => hf p

theorem FigureTable.modifyPoint_levels (t : FigureTable) (k : Nat) {f : OwnPoint → OwnPoint}
    (hf : ∀ p, (f p).protection = p.protection) :
    (t.modifyPoint k f).own.map (·.protection) = t.own.map (·.protection) :=
  map_protection (fun p => by split <;> [exact hf p; rfl]) t.own

theorem Protection.raised_of_throughClosing (q : Protection) : Protection.throughClosing.raised q = .throughClosing := by
  cases q <;> rfl

/-- A protection raise lowers no level (R34). -/
theorem FigureTable.protect_allProtected {t : FigureTable} (h : AllProtected (t.own.map (·.protection))) (level : Protection)
    (which : OwnPoint → Bool) : AllProtected ((t.protect level which).own.map (·.protection)) := by
  rcases t.protect_cases level which with ⟨-, heq⟩ | ⟨-, heq⟩ <;> rw [heq]
  · exact h
  · intro l hl
    simp only [List.map_map, List.mem_map, Function.comp] at hl
    obtain ⟨p, hp, rfl⟩ := hl
    have hprotected : p.protection = .throughClosing := h _ (List.mem_map_of_mem hp)
    split
    · exact hprotected ▸ Protection.raised_of_throughClosing level
    · exact hprotected

theorem FigureTable.protect_permit (t : FigureTable) (level : Protection) (which : OwnPoint → Bool) :
    (t.protect level which).permit = t.permit := by
  rcases t.protect_cases level which with ⟨-, heq⟩ | ⟨-, heq⟩
  · rw [heq]
  · rw [heq]
    rfl

theorem FigureTable.protect_throughClosing_allProtected (t : FigureTable) :
    AllProtected ((t.protect .throughClosing fun _ => true).own.map (·.protection)) := by
  rw [FigureTable.protect_throughClosing]
  simp [AllProtected]

/-- PERMIT sets the permit only under an amend mode that has one (R32). -/
theorem State.setPermit_stanceStep (value : Bool) (s : State) : s.StanceStep (s.setPermit value).stance := by
  unfold State.setPermit
  split
  · refine .moved (fun hpermit => .inr ?_) id (.refl s.lau)
    simpa using (Bool.and_eq_true_iff.1 hpermit).2
  · exact .same s

/-- A store or a withdrawal may consume the permit (R32), and keeps each point's protection. -/
theorem State.StanceStep.of_ownChange {s t : State} (hsheet : t.sheet = s.sheet) (hlau : t.lau = s.lau)
    (hpermit : t.table.permit = true → s.table.permit = true)
    (hlevels : t.table.own.map (·.protection) = s.table.own.map (·.protection)) : s.StanceStep t.stance := by
  rw [State.stance, hsheet, hlau, hlevels]
  exact .moved (fun h => .inl (hpermit h)) id (.refl s.lau)

theorem State.postStore_stanceStep (s : State) : s.StanceStep s.postStore.stance := by
  unfold State.postStore
  split
  · split
    · exact .same s
    · split
      · exact .same s
      · extract_lets e observation table kept stored requested limited marked
        rw [State.complete_stance, State.markEpochs_stance, State.raiseWatch_stance, State.raiseIf_stance]
        refine State.StanceStep.of_ownChange (t := stored) rfl rfl (fun h => (Bool.and_eq_true_iff.1 h).1) ?_
        exact FigureTable.modifyPoint_levels _ _ fun _ => rfl
  · exact .same s

theorem State.withdrawalMade_stanceStep (s : State) : s.StanceStep s.withdrawalMade.stance := by
  unfold State.withdrawalMade
  split
  · split
    · exact .same s
    · split
      · exact .same s
      · extract_lets table withdrawn requested marked
        rw [State.complete_stance, State.markEpochs_stance, State.raiseWatch_stance]
        refine State.StanceStep.of_ownChange (t := withdrawn) rfl rfl (fun h => (Bool.and_eq_true_iff.1 h).1) ?_
        exact FigureTable.modifyPoint_levels _ _ fun _ => rfl
  · exact .same s

theorem State.finaliseMade_stanceStep (s : State) : s.StanceStep s.finaliseMade.stance := by
  unfold State.finaliseMade
  split
  · next hdue =>
    have := State.StanceStep.finalised hdue.1 s.table.protect_throughClosing_allProtected
    rwa [State.stance, ← s.table.protect_permit .throughClosing fun _ => true] at this
  · exact .same s

theorem State.restartChange_stanceStep (s : State) : s.StanceStep s.restartChange.stance := by
  unfold State.restartChange
  split
  · next hdue => exact .restarted hdue.1
  · exact .same s

theorem State.attestScanComplete_stanceStep (s : State) : s.StanceStep s.attestScanComplete.stance := by
  unfold State.attestScanComplete
  split
  · next p e _ _ =>
    have hprotected (h : AllProtected s.stance.levels) :=
      FigureTable.protect_allProtected h e.protection fun o => decide (o.parcel = p) && !o.withdrawn
    have hpermit := s.table.protect_permit e.protection fun o => decide (o.parcel = p) && !o.withdrawn
    exact .moved (fun h => .inl (hpermit ▸ h)) hprotected (.refl s.lau)
  · exact .same s

/-! ### The line -/

theorem State.mapLau_stanceStep {f : Lau → Lau} (hf : ∀ l : Lau, l.Follows (f l)) (s : State) :
    s.StanceStep (s.mapLau f).stance :=
  .of_lau (hf s.lau)

theorem State.tick_stanceStep (s : State) : s.StanceStep s.tick.stance := .of_lau s.lau.tick_follows

/-- A MUTE node starts no frame (R97, R101). -/
theorem State.turnGap_stanceStep (s : State) : s.StanceStep s.turnGap.stance := by
  unfold State.turnGap
  split
  · next hown =>
    obtain ⟨hline, -⟩ := (s.lau.ownTurn_iff s.ownSlot).1 hown
    dsimp only
    split
    · exact .of_lau (.of_same_line rfl rfl rfl)
    · exact .of_lau (.of_same_line rfl rfl rfl)
    · next hmute _ =>
      split
      · exact .of_lau (.of_same_line rfl rfl rfl)
      · refine .of_lau (.of_round hline (by simp) rfl fun _ hmuted => ?_)
        exact absurd (hmute.symm.trans hmuted) Bool.false_ne_true
  · exact .same s

theorem State.sendComplete_stanceStep (stopDominant : Bool) (s : State) :
    s.StanceStep (s.sendComplete stopDominant).stance := by
  unfold State.sendComplete
  split
  · next hline =>
    split
    · exact .of_lau (.of_round hline (by simp [Lau.frameEnded, Lau.newTurn]) rfl fun _ _ => rfl)
    · exact .same s
  · exact .same s

/-- A node that sends is not MUTE, so one that drives a clash mark is not either (R98, R101). -/
theorem State.clash_stanceStep (s : State) : s.StanceStep s.clash.stance := by
  unfold State.clash
  split
  · next hline =>
    split
    · exact .same s
    · refine .of_lau (.of_round hline (by simp) rfl fun h hmuted => ?_)
      exact absurd ((h.not_mute (by rw [hline]; rfl)).symm.trans hmuted) Bool.false_ne_true
  · exact .same s

theorem State.clashMarkEnd_stanceStep (s : State) : s.StanceStep s.clashMarkEnd.stance := by
  unfold State.clashMarkEnd
  split
  · next hline =>
    have hon : s.lau.line ≠ .off := by simp [hline]
    split
    · exact .of_lau (.of_on hon (by simp [Lau.toSeek]) (fun _ => rfl) fun _ _ => rfl)
    · exact .of_lau (Lau.toSeek_follows hon 0)
  · exact .same s

theorem State.failReception_stanceStep {s : State} (h : s.lau.line ≠ .off) : s.StanceStep s.failReception.stance := by
  unfold State.failReception
  rw [State.raiseIf_stance]
  exact .of_lau (Lau.receptionFailed_follows h)

/-- A frame of the own slot makes the node MUTE, which drives nothing while it receives (R100). -/
theorem State.frameReceived_stanceStep (bytes : List Byte) (s : State) : s.StanceStep (s.frameReceived bytes).stance := by
  have hround {phase : RoundPhase} (hline : s.lau.line = .round phase)
      (hphase : s.lau.line = .round .awaiting ∨ s.lau.line = .round .receiving) :
      s.StanceStep (s.frameReceived bytes).stance := by
    cases hbytes : Frame.ofBytes bytes with
    | none =>
      rw [State.frameReceived_of_invalid hphase hbytes]
      exact .of_lau (.of_on (by simp [hline]) (by simp [State.failedReception, Lau.seeking]) (fun _ => rfl) fun _ _ => rfl)
    | some f =>
      rw [State.frameReceived_of_valid hphase hbytes]
      have hended (mute : Bool) : s.lau.Follows { s.lau.validEnded bytes f with mute := mute } :=
        .of_round hline (by simp [Lau.validEnded]) rfl fun _ _ => rfl
      by_cases hsource : f.source.toNat = s.ownSlot
      · rw [State.heard_validFrame_of_own hsource]
        exact .of_lau (hended true)
      · rw [State.heard_validFrame_of_other hsource]
        exact .of_lau (hended s.lau.mute)
  rcases hline : s.lau.line with _ | _ | _ | phase
  case off => exact .of_eq (by rw [State.frameReceived_of_off_or_driving (.inl hline)])
  case seek => exact State.frameReceived_of_listening (.inl hline) bytes ▸ s.mapLau_stanceStep (Lau.heardLevels_follows bytes)
  case window => exact State.frameReceived_of_listening (.inr hline) bytes ▸ s.mapLau_stanceStep (Lau.heardLevels_follows bytes)
  case round =>
    cases phase with
    | awaiting => exact hround hline (.inl hline)
    | receiving => exact hround hline (.inr hline)
    | sending frame n => exact .of_eq (by rw [State.frameReceived_of_off_or_driving (.inr (.inr ⟨frame, n, hline⟩))])
    | clashMark => exact .of_eq (by rw [State.frameReceived_of_off_or_driving (.inr (.inl hline))])

theorem State.linkReset_stanceStep (s : State) : s.StanceStep s.linkReset.stance := by
  cases hstate : s.running with
  | false =>
    rw [State.linkReset_of_not_running hstate]
    exact .same s
  | true =>
    rw [State.linkReset_of_running hstate, State.complete_stance, State.linkResetStep_eq]
    exact .linkReset hstate rfl rfl

/-! ### Every step -/

/-- What a command other than a power-on reset can do to the stance. -/
theorem exec_stanceStep {c : Instr} (hc : ∀ byInput, c ≠ .powerOnReset byInput) (s : State) :
    s.StanceStep (s.after c).stance := by
  cases c with
  | powerOnReset byInput => exact absurd rfl (hc byInput)
  | unknownRequest code =>
    show s.StanceStep (if (paramBytes code).isNone then s.serveRequest (State.answerCode .unknown) else s).stance
    split
    · exact .of_eq (State.serveRequest_answer_stance .unknown (fun _ => []) s)
    · exact .same s
  | earlyDeselection bits => exact .of_eq (State.stance_of_blocks (s.earlyDeselection_blocks bits) (s.earlyDeselection_ledger bits))
  | status => exact .of_eq (State.serveRequest_answer_stance .done State.statusBytes s)
  | identify => exact .of_eq (State.serveRequest_answer_stance .done (fun _ => identifyBytes) s)
  | sheetBegin number revision ownSlot direction amendMode silence republish =>
    exact State.takeRequest_stanceStep (State.sheetBegin_stanceStep _) s
  | sheetParcel parcel tRef a b d vef inner outer custody => exact State.takeRequest_stanceStep (State.define_stanceStep _) s
  | sheetRoster slot role => exact State.takeRequest_stanceStep (State.define_stanceStep _) s
  | sheetPoint point parcel meterFactor => exact State.takeRequest_stanceStep (State.define_stanceStep _) s
  | sheetEnd => exact .of_eq (State.takeRequest_stance State.sheetEnd_stance s)
  | sheetEndComplete => exact s.sheetEndComplete_stanceStep
  | start => exact State.takeRequest_stanceStep State.start_stanceStep s
  | post point epoch quantity water temperature => exact .of_eq (State.takeRequest_stance (State.post_stance _ _ _) s)
  | stuGrant => exact .same s
  | stuObservationComputed => exact .of_eq s.stuComputed_stance
  | postStore => exact s.postStore_stanceStep
  | permit => exact State.takeRequest_stanceStep (State.setPermit_stanceStep true) s
  | revoke => exact State.takeRequest_stanceStep (State.setPermit_stanceStep false) s
  | withdraw point => exact .of_eq (State.takeRequest_stance (State.withdraw_stance _) s)
  | withdrawalMade => exact s.withdrawalMade_stanceStep
  | finalise => exact .of_eq (State.takeRequest_stance State.finalise_stance s)
  | finaliseMade => exact s.finaliseMade_stanceStep
  | attest parcel epoch => exact .of_eq (State.takeRequest_stance (State.attestRequest_stance _ _) s)
  | intakeHoldSet => exact .of_eq s.intakeHoldSet_stance
  | attestScanComplete => exact s.attestScanComplete_stanceStep
  | restart => exact .of_eq (State.takeRequest_stance State.restart_stance s)
  | restartChange => exact s.restartChange_stanceStep
  | linkReset => exact State.takeRequest_stanceStep State.linkReset_stanceStep s
  | serviceQuery => exact .of_eq (State.serveRequest_answer_stance .done _ s)
  | acknowledge kind subject => exact .of_eq (State.takeRequest_stance (State.acknowledge_stance _ _) s)
  | noticeEnable kind setting =>
    exact .of_eq (State.takeRequest_stance (fun t => t.stance_of_blocks (t.noticeEnable_blocks ..) (t.noticeEnable_ledger ..)) s)
  | edgeSelect parcel setting =>
    exact .of_eq (State.takeRequest_stance (fun t => t.stance_of_blocks (t.edgeSelect_blocks ..) (t.edgeSelect_ledger ..)) s)
  | watchAdd slot point =>
    exact .of_eq (State.takeRequest_stance (fun t => t.stance_of_blocks (t.watchAdd_blocks ..) (t.watchAdd_ledger ..)) s)
  | watchRemove slot point =>
    exact .of_eq (State.takeRequest_stance (fun t => t.stance_of_blocks (t.watchRemove_blocks ..) (t.watchRemove_ledger ..)) s)
  | readPoint point => exact .of_eq (State.serveRequest_stance (State.readPoint_stance _) s)
  | readEntry form first second => exact .of_eq (State.serveRequest_stance (State.readEntry_stance _ _ _) s)
  | readParcel parcel => exact .of_eq (State.serveRequest_stance (State.readParcel_stance _) s)
  | readAttest parcel epoch => exact .of_eq (State.serveRequest_stance (State.readAttest_stance _ _) s)
  | readPeer slot =>
    exact .of_eq (State.serveRequest_stance (fun t => t.stance_of_blocks (t.readPeer_blocks _) (t.readPeer_ledger _)) s)
  | readCounters => exact .of_eq (State.serveRequest_answer_stance .done State.counterBytes s)
  | readNotices => exact .of_eq (State.serveRequest_answer_stance .done _ s)
  | walk index => exact .of_eq (State.serveRequest_stance (State.walk_stance _) s)
  | walkRecordTaken => exact .of_eq (State.stance_of_blocks s.walkNext_blocks s.walkNext_ledger)
  | walkDeselected => exact .same s
  | quiet => exact s.mapLau_stanceStep Lau.quietReached_follows
  | claimDecision => exact s.mapLau_stanceStep (Lau.decideClaim_follows _)
  | windowEnd => exact s.mapLau_stanceStep Lau.endWindow_follows
  | turnGap => exact s.turnGap_stanceStep
  | turnTimeout => exact s.mapLau_stanceStep Lau.turnTimeout_follows
  | sendComplete stopDominant => exact s.sendComplete_stanceStep stopDominant
  | clash => exact s.clash_stanceStep
  | clashMarkEnd => exact s.clashMarkEnd_stanceStep
  | receptionFailed =>
    show s.StanceStep (if s.lau.line = .round .receiving then s.failReception else s).stance
    split
    · next hline => exact State.failReception_stanceStep (by simp [hline])
    · exact .same s
  | frameReceived bytes => exact s.frameReceived_stanceStep bytes
  | intakeTakeFrame => exact .of_eq s.takeFrame_stance
  | frameMerge => exact .of_eq s.frameMerge_stance
  | comparisonComplete => exact .of_eq s.comparisonComplete_stance
  | balanceTake => exact .of_eq s.balanceTake_stance
  | balanceComplete => exact .of_eq s.balanceComplete_stance
  | silenceTimerExpiry slot => exact .of_eq (s.silenceExpired_stance slot.toNat)
  | presenceTimerExpiry => exact .same s
  | republishTimerExpiry => exact .of_eq s.republishExpired_stance
  | dominantLevelRead startBit => exact s.mapLau_stanceStep (Lau.dominantRead_follows startBit)
  | claimSlotSample slot dominant => exact s.mapLau_stanceStep (Lau.sampleSlot_follows _ _ dominant)
  | resetReleased selLow => exact .of_eq (State.stance_of_blocks (s.resetReleased_blocks selLow) (s.resetReleased_ledger selLow))

/-- What a step can do to the stance: a power-on reset, or one of the changes of `State.StanceStep` to a state that is `s` but
for the commands that wait. -/
theorem step_stance {s t : State} (h : step s = .next t) :
    t.stance = State.reset.stance ∨ ∃ rest, ({ s with pending := rest } : State).StanceStep t.stance := by
  rcases step_cases h with ⟨-, rfl⟩ | ⟨c, rest, -, hexec⟩
  · exact .inr ⟨s.pending, s.tick_stanceStep⟩
  · rw [exec_next, Host.Outcome.next.injEq] at hexec
    by_cases hc : ∃ byInput, c = .powerOnReset byInput
    · obtain ⟨byInput, rfl⟩ := hc
      exact .inl (hexec ▸ rfl)
    · exact .inr ⟨rest, hexec ▸ exec_stanceStep (fun byInput heq => hc ⟨byInput, heq⟩) { s with pending := rest }⟩

/-! ### The invariants, said of the stance -/

def Stance.running (S : Stance) : Bool := decide (S.sheet.node = .active ∨ S.sheet.node = .final)

def Stance.amendMode (S : Stance) : AmendMode := ((S.sheet.sheet.map (·.header)).map (·.amendMode)).getD .none

/-- What `LineInv` says beside `SheetInv`. -/
def Stance.LineOk (S : Stance) : Prop := (S.lau.line = .off ↔ S.running = false) ∧ S.lau.Sound

theorem lineInv_iff (s : State) : LineInv s ↔ SheetInv s ∧ s.stance.LineOk := Iff.rfl

/-- What `ProtectionInv` says beside `SheetInv` and `IdleInv`. -/
def Stance.ProtectionOk (S : Stance) : Prop :=
  (S.amendMode = .none → S.permit = false) ∧ (S.sheet.node = .final → AllProtected S.levels)

theorem protectionInv_iff (s : State) : ProtectionInv s ↔ SheetInv s ∧ IdleInv s ∧ s.stance.ProtectionOk := by
  simp only [ProtectionInv, Stance.ProtectionOk, AllProtected, State.stance, List.forall_mem_map]
  exact Iff.rfl

/-- A SHEET END is in flight before START only (R136). -/
theorem SheetInv.off_of_sheetEnd {s : State} (h : SheetInv s) (hbusy : s.port.busy = some .sheetEnd) : s.running = false := by
  obtain ⟨-, -, hop⟩ := h
  have hloading : s.sheet.node = .loading := by simpa using hop _ hbusy
  simp [State.running, hloading]

/-- Any other long operation is in flight in ACTIVE or FINAL only. -/
theorem SheetInv.running_of_busy {s : State} (h : SheetInv s) {op : LongOp} (hbusy : s.port.busy = some op)
    (hop : op ≠ .sheetEnd) : s.running = true := by
  obtain ⟨-, -, hstate⟩ := h
  have := hstate op hbusy
  rwa [if_neg hop] at this

/-- A state before START, where `SheetInv` and `IdleInv` hold. -/
theorem IdleInv.idle {s : State} (h : IdleInv s) (hsheet : SheetInv s) (hoff : s.running = false) : s.Idle :=
  ⟨hoff, hsheet, (idleInv_iff s).1 h hoff⟩

theorem not_running_of_loading {s : State} {sheet : SheetStore} (hoff : s.running = false)
    (hnode : sheet.node = .loading ∨ sheet.node = .loaded ∨ sheet.node = s.sheet.node) :
    sheet.node ≠ .active ∧ sheet.node ≠ .final := by
  rcases hnode with hnode | hnode | hnode
  · simp [hnode]
  · simp [hnode]
  · exact hnode ▸ (s.not_running_iff).1 hoff

theorem State.StanceStep.lineOk {s : State} {S : Stance} (hs : s.StanceStep S) (hsheet : SheetInv s) (hidle : IdleInv s)
    (h : s.stance.LineOk) : S.LineOk := by
  obtain ⟨hline, hsound⟩ := h
  have hon (hrunning : s.running = true) : s.lau.line ≠ .off := fun hoff =>
    Bool.false_ne_true ((hline.1 hoff).symm.trans hrunning)
  cases hs with
  | moved hpermit hlevels hlau => exact ⟨hlau.off.trans hline, hlau.sound hsound⟩
  | loading hoff hnode =>
    have hoff : s.running = false := hoff.elim id hsheet.off_of_sheetEnd
    exact ⟨iff_of_true (hline.2 hoff) (by simp [Stance.running, not_running_of_loading hoff hnode]), hsound⟩
  | started hstate =>
    have hoff : s.running = false := by simp [State.running, hstate]
    refine ⟨by simp [Stance.running], .of_not_claiming ?_ fun _ => rfl⟩
    rw [(hidle.idle hsheet hoff).lau]
    rfl
  | finalised hbusy hlevels | restarted hbusy =>
    exact ⟨iff_of_false (hon (hsheet.running_of_busy hbusy (by simp))) (by simp [Stance.running]), hsound⟩
  | linkReset hstate hseek hclaiming =>
    have hrunning : s.stance.running ≠ false := fun hoff => Bool.false_ne_true (hoff.symm.trans hstate)
    exact ⟨iff_of_false (by simp [hseek]) hrunning, .of_not_claiming hclaiming fun _ => by rw [hseek]; rfl⟩

theorem State.StanceStep.protectionOk {s : State} {S : Stance} (hs : s.StanceStep S) (hsheet : SheetInv s) (hidle : IdleInv s)
    (h : s.stance.ProtectionOk) : S.ProtectionOk := by
  obtain ⟨hpermit, hprotected⟩ := h
  cases hs with
  | moved hset hlevels hlau =>
    refine ⟨fun hmode => Bool.eq_false_iff.2 fun hpermitted => ?_, fun hfinal => hlevels (hprotected hfinal)⟩
    rcases hset hpermitted with hheld | hother
    · exact Bool.false_ne_true ((hpermit hmode).symm.trans hheld)
    · exact hother hmode
  | loading hoff hnode =>
    have hoff : s.running = false := hoff.elim id hsheet.off_of_sheetEnd
    refine ⟨fun _ => ?_, fun hfinal => absurd hfinal (not_running_of_loading hoff hnode).2⟩
    show s.table.permit = false
    rw [(hidle.idle hsheet hoff).table]
    rfl
  | started hstate => exact ⟨hpermit, by simp⟩
  | finalised hbusy hlevels => exact ⟨hpermit, fun _ => hlevels⟩
  | restarted hbusy => exact ⟨fun _ => rfl, by simp⟩
  | linkReset hstate hseek hclaiming => exact ⟨hpermit, hprotected⟩

theorem lineInv_reset : LineInv State.reset := by decide

theorem protectionInv_reset : ProtectionInv State.reset := by decide

theorem lineInv_step {s t : State} (hstep : step s = .next t) (hidle : IdleInv s) (h : LineInv s) : LineInv t := by
  obtain ⟨hsheet, hline⟩ := (lineInv_iff s).1 h
  refine (lineInv_iff t).2 ⟨sheetInv_step hstep hsheet, ?_⟩
  rcases step_stance hstep with heq | ⟨rest, hs⟩
  · exact heq ▸ ((lineInv_iff _).1 lineInv_reset).2
  · exact hs.lineOk hsheet hidle hline

theorem protectionInv_step {s t : State} (hstep : step s = .next t) (h : ProtectionInv s) : ProtectionInv t := by
  obtain ⟨hsheet, hidle, hprotection⟩ := (protectionInv_iff s).1 h
  refine (protectionInv_iff t).2 ⟨sheetInv_step hstep hsheet, idleInv_step hstep hsheet hidle, ?_⟩
  rcases step_stance hstep with heq | ⟨rest, hs⟩
  · exact heq ▸ ((protectionInv_iff _).1 protectionInv_reset).2.2
  · exact hs.protectionOk hsheet hidle hprotection

/-- Settles O54: each step is a change of the stance, and each such change keeps the line with the node state and the permit
and the protection with the amend mode and FINAL; before START the blocks are those of `idleInv_step`. -/
theorem nodeStateLineAndProtectionStayTogether : Obligations.NodeStateLineAndProtectionStayTogether := by
  rintro s t ⟨hidle, hline, hprotection⟩ hstep
  obtain ⟨hsheet, -⟩ := (lineInv_iff s).1 hline
  exact ⟨idleInv_step hstep hsheet hidle, lineInv_step hstep hidle hline, protectionInv_step hstep hprotection⟩

end Sys2Proof.Machine
end

section
/-! PROOFS. The transfer sheet: SHEET BEGIN, the definition requests, SHEET END and its eight checks (07 sections 7.1, 7.2). -/

namespace Sys2Proof.Machine

/-! ### Codes of the sheet requests (section 10.4) -/

theorem Direction.ofCode_byte (b : Byte) :
    Direction.ofCode b.toNat = if 1 < b.toNat then none else some (if b = 0 then .discharge else .loading) := by
  have hzero : b = 0 ↔ b.toNat = 0 := BitVec.toNat_inj.symm
  simp only [hzero]
  rcases b.toNat with _ | _ | n <;> simp [Direction.ofCode]

theorem AmendMode.ofCode_byte (b : Byte) : AmendMode.ofCode b.toNat =
    if 2 < b.toNat then Option.none else some (if b = 0 then .each else if b = 1 then .held else .none) := by
  have hzero : b = 0 ↔ b.toNat = 0 := BitVec.toNat_inj.symm
  have hone : b = 1 ↔ b.toNat = 1 := BitVec.toNat_inj.symm
  simp only [hzero, hone]
  rcases b.toNat with _ | _ | _ | n <;> simp [AmendMode.ofCode]

theorem CustodySide.ofCode_byte (b : Byte) :
    CustodySide.ofCode b.toNat = if 1 < b.toNat then none else some (if b = 0 then .tanks else .meters) := by
  have hzero : b = 0 ↔ b.toNat = 0 := BitVec.toNat_inj.symm
  simp only [hzero]
  rcases b.toNat with _ | _ | n <;> simp [CustodySide.ofCode]

/-- The roles in the order of their codes. -/
abbrev Role.named (code : Nat) : Role := [Role.empty, .ship, .shoreTanks, .shoreMeters, .survey].getD code .empty

theorem Role.ofCode_eq (n : Nat) : Role.ofCode n = if 4 < n then none else some (Role.named n) := by
  rcases n with _ | _ | _ | _ | _ | n <;> simp [Role.ofCode]

/-- What is taken where its fields are in range is refused where one is not. -/
theorem some_ite_eq_none_ite {α : Type} {taken refused : Prop} [Decidable taken] [Decidable refused]
    (h : taken ↔ ¬ refused) (x : α) : (if taken then some x else none) = if refused then none else some x :=
  (if_congr h rfl rfl).trans (ite_not ..)

/-! ### SHEET BEGIN (R131, R132) -/

/-- The parameters that SHEET BEGIN refuses with RANGE (R131). -/
abbrev HeaderRefused (number : BitVec 32) (ownSlot direction amendMode : Byte) (silence : BitVec 16) (republish : Byte) :
    Prop :=
  number.toNat < 1 ∨ 15 < ownSlot.toNat ∨ 1 < direction.toNat ∨ 2 < amendMode.toNat ∨ silence.toNat < 20
    ∨ 300 < silence.toNat ∨ republish.toNat < 1 ∨ 60 < republish.toNat

theorem Header.inRange_iff (h : Header) : h.inRange = true ↔
    1 ≤ h.number ∧ h.ownSlot ≤ 15 ∧ 20 ≤ h.silence ∧ h.silence ≤ 300 ∧ 1 ≤ h.republish ∧ h.republish ≤ 60 := by
  simp [Header.inRange, slotInRange, Machine.inRange, and_assoc]

theorem headerOf_eq (number : BitVec 32) (revision : BitVec 16) (ownSlot direction amendMode : Byte) (silence : BitVec 16)
    (republish : Byte) :
    headerOf number revision ownSlot direction amendMode silence republish =
      if HeaderRefused number ownSlot direction amendMode silence republish then none
      else some
        { number := number.toNat, revision := revision.toNat, ownSlot := ownSlot.toNat
          direction := if direction = 0 then .discharge else .loading
          amendMode := if amendMode = 0 then .each else if amendMode = 1 then .held else .none
          silence := silence.toNat, republish := republish.toNat } := by
  simp only [headerOf, Direction.ofCode_byte, AmendMode.ofCode_byte, Header.inRange_iff]
  by_cases hdirection : 1 < direction.toNat
  · simp [hdirection]
  · by_cases hmode : 2 < amendMode.toNat
    · simp [hmode, hdirection]
    · rw [if_neg hdirection, if_neg hmode]
      exact some_ite_eq_none_ite (by omega) _

theorem State.newSelection_sheetBegin (refused : Prop) [Decidable refused] (h : Header) (s : State) :
    s.newSelection.sheetBegin (if refused then none else some h) = s.checked
      [(decide (s.sheet.node = .active ∨ s.sheet.node = .final), .state), (decide refused, .range)]
      { s.answered .done [] with sheet :=
        { node := .loading, reason := 0
          sheet := some { header := h, parcels := [], roster := List.replicate 16 .empty, points := [] } } } := by
  simp only [State.checked_cons, State.checked_nil, decide_eq_true_eq, ← State.running_iff]
  unfold State.sheetBegin
  rw [State.newSelection_running, State.newSelection_answerCode, State.newSelection_answerCode]
  by_cases hrefused : refused
  · simp only [if_pos hrefused]
  · simp only [if_neg hrefused]
    rfl

/-- Settles O9: the header by `headerOf_eq`, the sheet by `State.newSelection_sheetBegin`. -/
theorem sheetBeginStartsAFreshSheet : Obligations.SheetBeginStartsAFreshSheet := by
  intro number revision ownSlot direction amendMode silence republish s h
  refine (exec_request_idle h _).trans (congrArg _ ?_)
  rw [headerOf_eq, State.newSelection_sheetBegin]

/-! ### SHEET PARCEL, SHEET ROSTER and SHEET POINT (R133, R134, R135) -/

theorem State.newSelection_define (refused : Prop) [Decidable refused] (f : Sheet → Sheet) (s : State) :
    s.newSelection.define (if refused then none else some f) = s.checked
      [(decide (s.sheet.node ≠ .loading), .state), (decide refused, .range)]
      { s.answered .done [] with sheet := { s.sheet with sheet := s.sheet.sheet.map f } } := by
  simp only [State.checked_cons, State.checked_nil, decide_eq_true_eq]
  unfold State.define
  rw [State.newSelection_sheet, State.newSelection_answerCode, State.newSelection_answerCode]
  by_cases hrefused : refused
  · simp only [if_pos hrefused]
  · simp only [if_neg hrefused]
    rfl

theorem ParcelDef.inRange_iff (p : ParcelDef) : p.inRange = true ↔
    1 ≤ p.number ∧ p.number ≤ 8 ∧ -1000 ≤ p.tRef ∧ p.tRef ≤ 4000 ∧ p.a ≤ 3000 ∧ p.b ≤ 2000 ∧ 5000 ≤ p.d ∧ p.d ≤ 11000
      ∧ 95000 ≤ p.vef ∧ p.vef ≤ 105000 ∧ p.inner ≤ 5000 ∧ p.outer ≤ 5000 ∧ p.inner ≤ p.outer := by
  simp [ParcelDef.inRange, parcelInRange, Machine.inRange, and_assoc]

theorem PointDef.inRange_iff (p : PointDef) : p.inRange = true ↔
    p.number ≤ 23 ∧ 1 ≤ p.parcel ∧ p.parcel ≤ 8
      ∧ (p.meterFactor = 0 ∨ 90000 ≤ p.meterFactor ∧ p.meterFactor ≤ 110000) := by
  simp [PointDef.inRange, pointInRange, parcelInRange, Machine.inRange, and_assoc]

/-- The parameters that SHEET PARCEL refuses with RANGE (R133). -/
abbrev ParcelRefused (parcel : Byte) (tRef a b d : BitVec 16) (vef : BitVec 24) (inner outer : BitVec 16) (custody : Byte) :
    Prop :=
  parcel.toNat < 1 ∨ 8 < parcel.toNat ∨ tRef.toInt < -1000 ∨ 4000 < tRef.toInt ∨ 3000 < a.toNat ∨ 2000 < b.toNat
    ∨ d.toNat < 5000 ∨ 11000 < d.toNat ∨ vef.toNat < 95000 ∨ 105000 < vef.toNat ∨ 5000 < inner.toNat ∨ 5000 < outer.toNat
    ∨ outer.toNat < inner.toNat ∨ 1 < custody.toNat

theorem parcelDefOf_eq (parcel : Byte) (tRef a b d : BitVec 16) (vef : BitVec 24) (inner outer : BitVec 16)
    (custody : Byte) :
    parcelDefOf parcel tRef a b d vef inner outer custody =
      if ParcelRefused parcel tRef a b d vef inner outer custody then none
      else some
        { number := parcel.toNat, tRef := tRef.toInt, a := a.toNat, b := b.toNat, d := d.toNat, vef := vef.toNat
          inner := inner.toNat, outer := outer.toNat, custody := if custody = 0 then .tanks else .meters } := by
  simp only [parcelDefOf, CustodySide.ofCode_byte, ParcelDef.inRange_iff]
  by_cases hcustody : 1 < custody.toNat
  · simp [hcustody]
  · rw [if_neg hcustody]
    exact some_ite_eq_none_ite (by omega) _

/-- SHEET ROSTER names a slot and a role, or is refused (R134). -/
theorem rosterChange_eq (slot role : Byte) :
    (if slotInRange slot.toNat then
      (Role.ofCode role.toNat).map (fun r (sh : Sheet) => { sh with roster := sh.roster.set slot.toNat r }) else none) =
    if 15 < slot.toNat ∨ 4 < role.toNat then none
    else some (fun sh => { sh with roster := sh.roster.set slot.toNat (Role.named role.toNat) }) := by
  have hinRange : slotInRange slot.toNat = true ↔ ¬ 15 < slot.toNat := by simp [slotInRange]
  simp only [Role.ofCode_eq, hinRange]
  by_cases hslot : 15 < slot.toNat
  · simp only [hslot, not_true_eq_false, if_false, true_or, if_true]
  · by_cases hrole : 4 < role.toNat
    · simp [hrole]
    · simp [hslot, hrole]

/-- SHEET POINT defines a point, or is refused (R135). -/
theorem pointChange_eq (p : PointDef) :
    (if p.inRange then some (fun (sh : Sheet) => { sh with points := upsert PointDef.number p sh.points }) else none) =
    if 23 < p.number ∨ p.parcel < 1 ∨ 8 < p.parcel ∨ (p.meterFactor ≠ 0 ∧ (p.meterFactor < 90000 ∨ 110000 < p.meterFactor))
    then none else some (fun sh => { sh with points := upsert PointDef.number p sh.points }) := by
  simp only [PointDef.inRange_iff]
  exact some_ite_eq_none_ite (by omega) _

/-- A definition is found by its number; the definitions of other numbers stay as they were. -/
theorem find?_upsert {α : Type} (number : α → Nat) (x : α) (xs : List α) (n : Nat) :
    (upsert number x xs).find? (fun y => decide (number y = n)) =
      if n = number x then some x else xs.find? (fun y => decide (number y = n)) := by
  have hfound {l : List α} (h : n = number x) : (x :: l).find? (fun y => decide (number y = n)) = some x :=
    List.find?_cons_of_pos (decide_eq_true h.symm)
  have hskipped {z : α} {l : List α} (h : n ≠ number z) :
      (z :: l).find? (fun y => decide (number y = n)) = l.find? (fun y => decide (number y = n)) :=
    List.find?_cons_of_neg (by simpa using Ne.symm h)
  induction xs with
  | nil =>
    unfold upsert
    split_ifs with h
    · exact hfound h
    · exact hskipped h
  | cons y ys ih =>
    unfold upsert
    split
    case isTrue hsame =>
      split_ifs with h
      · exact hfound h
      · rw [hskipped h, hskipped (hsame ▸ h)]
    case isFalse hother =>
      split
      · split_ifs with h
        · exact hfound h
        · exact hskipped h
      · by_cases hy : n = number y
        · have hpos {l : List α} : (y :: l).find? (fun y => decide (number y = n)) = some y :=
            List.find?_cons_of_pos (decide_eq_true hy.symm)
          rw [hpos, hpos, if_neg fun h => hother (h.symm.trans hy)]
        · rw [hskipped hy, hskipped hy, ih]

/-- Settles O10: each request by its change of the sheet and `State.newSelection_define`, the lookup by `find?_upsert`. -/
theorem sheetDefinitionsAreTakenInLoading : Obligations.SheetDefinitionsAreTakenInLoading := by
  refine ⟨fun parcel tRef a b d vef inner outer custody s h => ?_, fun slot role s h => ?_,
    fun point parcel meterFactor s h => ?_, find?_upsert ParcelDef.number, find?_upsert PointDef.number⟩
  · refine (exec_request_idle h _).trans (congrArg _ ?_)
    rw [parcelDefOf_eq, apply_ite (Option.map _), Option.map_none, Option.map_some, State.newSelection_define]
  · refine (exec_request_idle h _).trans (congrArg _ ?_)
    rw [rosterChange_eq, State.newSelection_define]
  · refine (exec_request_idle h _).trans (congrArg _ ?_)
    dsimp only
    rw [pointChange_eq, State.newSelection_define]

/-! ### SHEET END (R136, R137) -/

theorem State.newSelection_sheetEnd (s : State) :
    s.newSelection.sheetEnd = s.checked [(decide (s.sheet.node ≠ .loading), .state)] (s.accepted .sheetEnd) := by
  simp only [State.checked_cons, State.checked_nil, decide_eq_true_eq]
  rfl

/-- The eight checks of R136, as the rule words them. -/
theorem Sheet.checks_eq (sh : Sheet) :
    let own := sh.roster.getD sh.header.ownSlot .empty
    sh.checks =
      [ decide (0 < sh.parcels.length),
        decide (own ≠ .empty),
        decide (own = .survey → sh.points.length = 0),
        decide (own ≠ .survey → 0 < sh.points.length),
        decide (∀ p ∈ sh.points, ∃ d ∈ sh.parcels, d.number = p.parcel),
        decide (∀ p ∈ sh.points, if own = .shoreMeters then 90000 ≤ p.meterFactor ∧ p.meterFactor ≤ 110000
          else p.meterFactor = 0),
        decide (∃ r ∈ sh.roster, r = .ship),
        decide (∃ r ∈ sh.roster, r = .shoreTanks ∨ r = .shoreMeters) ] := by
  intro own
  have hparcels : (!sh.parcels.isEmpty) = decide (0 < sh.parcels.length) := by cases sh.parcels <;> rfl
  have hnone : sh.points = [] ↔ sh.points.length = 0 := List.length_eq_zero_iff.symm
  have hsome : sh.points ≠ [] ↔ 0 < sh.points.length := List.length_pos_iff.symm
  have hfactor (p : PointDef) :
      (if own = .shoreMeters then inRange 90000 110000 p.meterFactor else decide (p.meterFactor = 0)) = true ↔
        if own = .shoreMeters then 90000 ≤ p.meterFactor ∧ p.meterFactor ≤ 110000 else p.meterFactor = 0 := by
    split <;> simp [inRange]
  simp only [Sheet.checks, List.all_eq, List.any_eq, decide_eq_true_eq, hparcels, hnone, hsome]
  simp only [own, ← hfactor]

/-- The first check that fails is the one found. -/
theorem findIdx?_of_first_false {l : List Bool} {i : Nat} (hbefore : ∀ j < i, l.getD j true = true)
    (hi : l.getD i true = false) : l.findIdx? (fun ok => !ok) = some i := by
  simp only [List.getD_eq_getElem?_getD] at hbefore hi
  obtain ⟨hlt, hfails⟩ : ∃ h : i < l.length, l[i] = false := by
    cases hget : l[i]? with
    | none => simp [hget] at hi
    | some ok => exact List.getElem?_eq_some_iff.1 (hget.trans (congrArg some (by simpa [hget] using hi)))
  refine List.findIdx?_eq_some_iff_getElem.2 ⟨hlt, by simp [hfails], fun j hj => ?_⟩
  have hpasses := hbefore j hj
  rw [List.getElem?_eq_getElem (hj.trans hlt), Option.getD_some] at hpasses
  simp [hpasses]

theorem findIdx?_of_all_true {l : List Bool} (h : ∀ i < l.length, l.getD i true = true) :
    l.findIdx? (fun ok => !ok) = none := by
  refine List.findIdx?_eq_none_iff.2 fun ok hok => ?_
  obtain ⟨i, hi, rfl⟩ := List.getElem_of_mem hok
  have hpasses := h i hi
  rw [List.getD_eq_getElem?_getD, List.getElem?_eq_getElem hi, Option.getD_some] at hpasses
  simp [hpasses]

theorem Sheet.failedCheck_of_first {sh : Sheet} {i : Nat} (hbefore : ∀ j < i, sh.checks.getD j true = true)
    (hi : sh.checks.getD i true = false) : sh.failedCheck = i + 1 := by
  rw [Sheet.failedCheck, findIdx?_of_first_false hbefore hi]

theorem Sheet.failedCheck_of_all {sh : Sheet} (h : ∀ i < sh.checks.length, sh.checks.getD i true = true) :
    sh.failedCheck = 0 := by
  rw [Sheet.failedCheck, findIdx?_of_all_true h]

theorem exec_sheetEndComplete (s : State) : exec .sheetEndComplete s = .next s.sheetEndComplete := rfl

/-- A SHEET END in flight completes as R137 says of the number of the failed check. -/
theorem State.sheetEndComplete_of_due {s : State} {sh : Sheet} (hbusy : s.port.busy = some .sheetEnd)
    (hsheet : s.sheet.sheet = some sh) :
    s.sheetEndComplete =
      if sh.failedCheck = 0 then { s.complete .done with sheet := { s.sheet with node := .loaded, reason := 0 } }
      else { s.complete .sheetInvalid with sheet := { s.sheet with reason := sh.failedCheck } } := by
  simp only [State.sheetEndComplete, hbusy, hsheet]

/-- Settles O11: the acceptance, and the completion by the first check that fails. -/
theorem sheetEndValidatesInOrder : Obligations.SheetEndValidatesInOrder := by
  refine ⟨fun s h => (exec_request_idle h _).trans (congrArg _ s.newSelection_sheetEnd), fun s sh hbusy hsheet => ?_⟩
  intro own checks
  have hchecks : sh.checks = checks := sh.checks_eq
  rw [exec_sheetEndComplete, State.sheetEndComplete_of_due hbusy hsheet]
  refine ⟨fun i hbefore hi => ?_, fun hall => ?_⟩
  · have hfailed : sh.failedCheck = i.val + 1 :=
      Sheet.failedCheck_of_first (fun j hj => hchecks ▸ hbefore ⟨j, hj.trans i.isLt⟩ hj) (hchecks ▸ hi)
    rw [if_neg (by omega), hfailed]
    rfl
  · rw [if_pos (Sheet.failedCheck_of_all fun i hi => hchecks ▸ hall ⟨i, hi⟩)]
    rfl

end Sys2Proof.Machine
end

section
/-! PROOFS. START and RESTART, and the invariants after a power-on reset (07 sections 7.3, 7.4). -/

namespace Sys2Proof.Machine

/-! ### START (R23, R50, R75, R138) -/

theorem exec_start (s : State) : exec .start s = .next (s.takeRequest State.start) := rfl

theorem State.start_of_not_loaded {s : State} (h : s.sheet.node ≠ .loaded) : s.start = s.answerCode .state := by
  unfold State.start
  split
  · exact absurd ‹_› h
  · rfl

/-- The own point records by the own role (R23): SURVEY and EMPTY have none. -/
theorem Sheet.ownRecords_eq (sh : Sheet) :
    sh.ownRecords = if sh.roster.getD sh.header.ownSlot .empty = .ship then sh.points.map (OwnPoint.create .shipTank)
      else if sh.roster.getD sh.header.ownSlot .empty = .shoreTanks then sh.points.map (OwnPoint.create .shoreTank)
      else if sh.roster.getD sh.header.ownSlot .empty = .shoreMeters then sh.points.map (OwnPoint.create .meter)
      else [] := by
  unfold Sheet.ownRecords
  generalize sh.roster.getD sh.header.ownSlot .empty = own
  cases own <;> rfl

/-- START in LOADED, block by block (R138). -/
theorem State.start_of_loaded {s : State} {sh : Sheet} (hnode : s.sheet.node = .loaded) (hsheet : s.sheet.sheet = some sh) :
    s.start = { s.answerCode .done with
      sheet := { s.sheet with node := .active }
      table := { s.table with changeCount := s.table.changeCount + 1, own := sh.ownRecords }
      balance := { s.balance with records := sh.parcels.map (fun d => ParcelRecord.create .idle d.number) }
      attest := sh.parcels.flatMap (fun d => [Epoch.opening, .closing].map (AttestRecord.create d.number))
      lau := { s.lau with line := .seek, quietCount := 0 }
      pub := { s.pub.give .presence with
        presenceTimer := some 2000000, republishTimer := some (sh.header.republish * 250000) } } := by
  unfold State.start
  split
  · next held _ hheld =>
    obtain rfl : held = sh := Option.some.inj (hheld.symm.trans hsheet)
    rfl
  · next hnot => exact absurd hsheet (hnot sh hnode)

/-- Settles O12: the refusal outside LOADED, and START block by block. -/
theorem startBringsTheBlocksIntoBeing : Obligations.StartBringsTheBlocksIntoBeing := by
  refine ⟨fun s h hnode => ?_, fun s sh h hnode hsheet => ?_⟩
  · rw [exec_start, State.takeRequest_idle h, State.start_of_not_loaded (s := s.newSelection) hnode, State.newSelection_answerCode]
  · intro own records
    rw [exec_start, State.takeRequest_idle h, State.start_of_loaded (s := s.newSelection) hnode hsheet,
      Sheet.ownRecords_eq]
    rfl

/-! ### RESTART (R46, R73, R88, R130, R141, R155) -/

theorem State.newSelection_restart (s : State) :
    s.newSelection.restart = s.checked [(decide (s.sheet.node ≠ .active ∧ s.sheet.node ≠ .final), .state)]
      (s.accepted .restart) := by
  simp only [State.checked_cons, State.checked_nil, decide_eq_true_eq, ← State.not_running_iff]
  unfold State.restart
  rw [State.newSelection_running]
  cases s.running <;> rfl

theorem State.restartChange_of_held {s : State} (hset : s.table.hold.holder ≠ none ∨ s.table.hold.waiting = true) :
    s.restartChange = s :=
  if_neg fun hdue => by simp [Hold.not_isClear hset] at hdue

/-- Settles O18: the refusal before START, the change block by block, and the wait for the hold. -/
theorem restartIsOneChangeOfManyBlocks : Obligations.RestartIsOneChangeOfManyBlocks := by
  refine ⟨fun s h => ?_, fun s hbusy hhold => ?_, fun s hset => congrArg _ (State.restartChange_of_held hset)⟩
  · exact (exec_request_idle h _).trans (congrArg _ s.newSelection_restart)
  · exact congrArg _ (if_pos ⟨hbusy, (Hold.isClear_iff _).2 hhold⟩)

/-! ### The power-on reset (R45, R142, R155) -/

theorem sheetInv_reset : SheetInv State.reset := by decide

theorem idleInv_reset : IdleInv State.reset := fun _ => ⟨rfl, rfl, rfl, rfl, rfl, rfl, rfl, rfl, rfl⟩

/-- Settles O52: the sheet and the idle blocks once, what each invariant says beside them at the power-on values. -/
theorem resetMeetsTheInvariants : Obligations.ResetMeetsTheInvariants :=
  ⟨by decide, sheetInv_reset, idleInv_reset, ⟨sheetInv_reset, idleInv_reset, by decide⟩, by decide,
    ⟨sheetInv_reset, idleInv_reset, by decide⟩, by decide, ⟨sheetInv_reset, idleInv_reset, by decide⟩, by decide,
    lineInv_reset, by decide, protectionInv_reset⟩

end Sys2Proof.Machine
end

section
/-! PROOFS. The pending set: its order of presentation and its entries, what a raise makes of them, and the requests that read
the set, take an entry out of it or change the watch set (08 sections 8.1, 8.2, 8.4, 8.6). -/

namespace Sys2Proof.Machine

/-! ### The order of presentation (R145, R150) -/

/-- The kinds of R145 by their priority. -/
def NoticeKind.byPriority : List NoticeKind :=
  [.linkFault, .sheetMismatch, .viewDiverge, .verdictWorse, .computeMismatch, .peerAbsent, .tableFull, .limit, .watch,
    .verdictBetter, .peerReturn]

theorem NoticeKind.byPriority_getElem? (k : NoticeKind) : NoticeKind.byPriority[k.priority - 1]? = some k := by
  cases k <;> rfl

theorem NoticeKind.priority_injective : Function.Injective NoticeKind.priority := fun k l h =>
  Option.some.inj (by rw [← k.byPriority_getElem?, h, l.byPriority_getElem?])

theorem NoticeKind.number_injective : Function.Injective NoticeKind.number := fun k l h =>
  Option.some.inj (by rw [← k.ofNumber_number, h, l.ofNumber_number])

/-- Where a notice of a kind and subject stands: by priority first, then by subject. -/
def noticePlace (k : NoticeKind) (j : Nat) : ℕ ×ₗ ℕ := toLex (k.priority, j)

abbrev Notice.place (n : Notice) : ℕ ×ₗ ℕ := noticePlace n.kind n.subject

theorem noticePlace_inj {k l : NoticeKind} {i j : Nat} : noticePlace k i = noticePlace l j ↔ k = l ∧ i = j := by
  simp [noticePlace, NoticeKind.priority_injective.eq_iff]

theorem noticePlace_lt_iff {k l : NoticeKind} {i j : Nat} :
    noticePlace k i < noticePlace l j ↔ k.priority < l.priority ∨ (k = l ∧ i < j) := by
  simp [noticePlace, Prod.Lex.toLex_lt_toLex, NoticeKind.priority_injective.eq_iff]

theorem presentedBefore_iff {k : NoticeKind} {j : Nat} {n : Notice} :
    presentedBefore k j n = true ↔ noticePlace k j < n.place := by
  simp [presentedBefore, noticePlace, Prod.Lex.toLex_lt_toLex]

theorem isNotice_iff_place {k : NoticeKind} {j : Nat} {n : Notice} : isNotice k j n = true ↔ n.place = noticePlace k j := by
  rw [isNotice_iff, noticePlace_inj]

/-- The notices stand in presentation order, no two at one place. -/
abbrev InPresentationOrder (ns : List Notice) : Prop := ns.Pairwise (fun m n => m.place < n.place)

/-- Strict order leaves no two entries of one kind and subject. -/
theorem InPresentationOrder.nodup {ns : List Notice} (h : InPresentationOrder ns) :
    (ns.map (fun n => (n.kind, n.subject))).Nodup := by
  refine List.pairwise_map.2 (h.imp fun hlt heq => hlt.ne (noticePlace_inj.2 ?_))
  exact Prod.mk.inj heq

theorem pendingOk_iff (ns : List Notice) : PendingOk ns ↔ InPresentationOrder ns ∧ ∀ n ∈ ns, n.count ≤ 255 := by
  simp only [PendingOk, presentedBefore_iff]
  exact ⟨And.right, fun h => ⟨h.1.nodup, h⟩⟩

/-- Entries that leave take nothing of the form with them (R149, R155). -/
theorem PendingOk.sublist {ns ms : List Notice} (h : PendingOk ns) (hsub : ms.Sublist ns) : PendingOk ms := by
  obtain ⟨horder, hcount⟩ := (pendingOk_iff ns).1 h
  exact (pendingOk_iff ms).2 ⟨horder.sublist hsub, fun n hn => hcount n (hsub.subset hn)⟩

/-! ### A raise (R144) -/

/-- An entry whose repeat count is raised by one, saturating at 255. -/
def Notice.repeated (n : Notice) : Notice := { n with count := min 255 (n.count + 1) }

/-- The pending set holds an entry of the kind and subject, whose count rises, or a new one is put at its place. -/
theorem raisePending_cases (k : NoticeKind) (j : Nat) (ns : List Notice) :
    (∃ n ∈ ns, n.place = noticePlace k j)
      ∧ raisePending k j ns = ns.map (fun n => if n.place = noticePlace k j then n.repeated else n)
    ∨ (∀ n ∈ ns, n.place ≠ noticePlace k j) ∧ raisePending k j ns = insertNotice k j ns := by
  cases hany : ns.any (isNotice k j) with
  | true =>
    refine .inl ⟨?_, ?_⟩
    · simpa only [List.any_eq_true, isNotice_iff_place] using hany
    · simp only [raisePending_of_mem hany, isNotice_iff_place, Notice.repeated]
  | false =>
    refine .inr ⟨?_, raisePending_of_not_mem hany⟩
    simpa only [List.any_eq_false, isNotice_iff_place] using hany

/-- A new entry goes behind the entries before its place and ahead of the others. -/
theorem InPresentationOrder.insert {k : NoticeKind} {j : Nat} {ns : List Notice} (h : InPresentationOrder ns)
    (hnew : ∀ n ∈ ns, n.place ≠ noticePlace k j) : InPresentationOrder (insertNotice k j ns) := by
  induction ns with
  | nil => exact List.pairwise_singleton ..
  | cons n ns ih =>
    obtain ⟨hn, hns⟩ := List.pairwise_cons.1 h
    unfold insertNotice
    split
    case isTrue hbefore =>
      have hlt : noticePlace k j < n.place := presentedBefore_iff.1 hbefore
      exact List.pairwise_cons.2 ⟨List.forall_mem_cons.2 ⟨hlt, fun m hm => hlt.trans (hn m hm)⟩, h⟩
    case isFalse hbehind =>
      have hlt : n.place < noticePlace k j :=
        (hnew n (List.mem_cons_self ..)).lt_of_le (not_lt.1 (mt presentedBefore_iff.2 hbehind))
      refine List.pairwise_cons.2 ⟨fun m hm => ?_, ih hns fun m hm => hnew m (List.mem_cons_of_mem _ hm)⟩
      rcases List.mem_cons.1 ((insertNotice_perm k j ns).mem_iff.1 hm) with rfl | hm
      · exact hlt
      · exact hn m hm

theorem InPresentationOrder.raise {ns : List Notice} (h : InPresentationOrder ns) (k : NoticeKind) (j : Nat) :
    InPresentationOrder (raisePending k j ns) := by
  rcases raisePending_cases k j ns with ⟨-, heq⟩ | ⟨hnew, heq⟩ <;> rw [heq]
  · refine List.pairwise_map.2 (h.imp fun {m n} hlt => ?_)
    have hplace (x : Notice) : (if x.place = noticePlace k j then x.repeated else x).place = x.place := by
      split <;> rfl
    rwa [hplace, hplace]
  · exact h.insert hnew

/-- What is pending after a raise: the entries of other places as they were, and at the place raised a repeated entry or a
new one. -/
theorem mem_raisePending_iff {k : NoticeKind} {j : Nat} {ns : List Notice} {m : Notice} :
    m ∈ raisePending k j ns ↔ (m ∈ ns ∧ m.place ≠ noticePlace k j)
      ∨ (∃ n ∈ ns, n.place = noticePlace k j ∧ n.repeated = m)
      ∨ ((∀ n ∈ ns, n.place ≠ noticePlace k j) ∧ m = { kind := k, subject := j, count := 0 }) := by
  rcases raisePending_cases k j ns with ⟨⟨x, hx, hplace⟩, heq⟩ | ⟨hnew, heq⟩ <;> rw [heq]
  · rw [List.mem_map]
    constructor
    · rintro ⟨n, hn, rfl⟩
      by_cases hat : n.place = noticePlace k j
      · exact .inr (.inl ⟨n, hn, hat, (if_pos hat).symm⟩)
      · rw [if_neg hat]
        exact .inl ⟨hn, hat⟩
    · rintro (⟨hm, hother⟩ | ⟨n, hn, hat, rfl⟩ | ⟨hnew, -⟩)
      · exact ⟨m, hm, if_neg hother⟩
      · exact ⟨n, hn, if_pos hat⟩
      · exact absurd hplace (hnew x hx)
  · rw [(insertNotice_perm k j ns).mem_iff, List.mem_cons]
    constructor
    · rintro (rfl | hm)
      · exact .inr (.inr ⟨hnew, rfl⟩)
      · exact .inl ⟨hm, hnew m hm⟩
    · rintro (⟨hm, -⟩ | ⟨n, hn, hat, -⟩ | ⟨-, rfl⟩)
      · exact .inr hm
      · exact absurd hat (hnew n hn)
      · exact .inl rfl

theorem PendingOk.raise {ns : List Notice} (h : PendingOk ns) (k : NoticeKind) (j : Nat) : PendingOk (raisePending k j ns) := by
  obtain ⟨horder, hcount⟩ := (pendingOk_iff ns).1 h
  refine (pendingOk_iff _).2 ⟨horder.raise k j, fun m hm => ?_⟩
  rcases mem_raisePending_iff.1 hm with ⟨hm, -⟩ | ⟨n, -, -, rfl⟩ | ⟨-, rfl⟩
  · exact hcount m hm
  · exact Nat.min_le_left ..
  · exact Nat.zero_le _

/-! ### The repeat count of a kind and subject -/

/-- The repeat count of the pending entry of a kind and subject, if there is one. -/
def pendingCount (ns : List Notice) (k : NoticeKind) (j : Nat) : Option Nat := (ns.find? (isNotice k j)).map (·.count)

theorem InPresentationOrder.eq_of_place {ns : List Notice} (h : InPresentationOrder ns) {m n : Notice} (hm : m ∈ ns)
    (hn : n ∈ ns) (hplace : m.place = n.place) : m = n :=
  List.inj_on_of_nodup_map (List.pairwise_map.2 (h.imp fun hlt => hlt.ne)) hm hn hplace

/-- Each kind and subject has one entry, so its count is that of the entry. -/
theorem InPresentationOrder.pendingCount_eq_some_iff {ns : List Notice} (h : InPresentationOrder ns) {k : NoticeKind}
    {j c : Nat} : pendingCount ns k j = some c ↔ { kind := k, subject := j, count := c } ∈ ns := by
  simp only [pendingCount, Option.map_eq_some_iff]
  constructor
  · rintro ⟨n, hfind, rfl⟩
    obtain ⟨rfl, rfl⟩ := isNotice_iff.1 (List.find?_some hfind)
    exact List.mem_of_find?_eq_some hfind
  · intro hmem
    obtain ⟨n, hfind⟩ := Option.isSome_iff_exists.1 (List.find?_isSome.2 ⟨_, hmem, isNotice_iff.2 ⟨rfl, rfl⟩⟩)
    have hplace : n.place = noticePlace k j := isNotice_iff_place.1 (List.find?_some hfind)
    exact ⟨n, hfind, by rw [h.eq_of_place (List.mem_of_find?_eq_some hfind) hmem hplace]⟩

theorem pendingCount_eq_none_iff {ns : List Notice} {k : NoticeKind} {j : Nat} :
    pendingCount ns k j = none ↔ ∀ n ∈ ns, n.place ≠ noticePlace k j := by
  simp only [pendingCount, Option.map_eq_none_iff, List.find?_eq_none, isNotice_iff_place, ne_eq]

theorem pendingCount_raise_of_none {ns : List Notice} (h : InPresentationOrder ns) {k : NoticeKind} {j : Nat}
    (hnone : pendingCount ns k j = none) : pendingCount (raisePending k j ns) k j = some 0 :=
  (h.raise k j).pendingCount_eq_some_iff.2
    (mem_raisePending_iff.2 (.inr (.inr ⟨pendingCount_eq_none_iff.1 hnone, rfl⟩)))

theorem pendingCount_raise_of_some {ns : List Notice} (h : InPresentationOrder ns) {k : NoticeKind} {j c : Nat}
    (hsome : pendingCount ns k j = some c) : pendingCount (raisePending k j ns) k j = some (min 255 (c + 1)) :=
  (h.raise k j).pendingCount_eq_some_iff.2
    (mem_raisePending_iff.2 (.inr (.inl ⟨_, h.pendingCount_eq_some_iff.1 hsome, rfl, rfl⟩)))

theorem pendingCount_raise_of_ne {ns : List Notice} (h : InPresentationOrder ns) {k l : NoticeKind} {i j : Nat}
    (hne : (l, i) ≠ (k, j)) : pendingCount (raisePending k j ns) l i = pendingCount ns l i := by
  have hother : noticePlace l i ≠ noticePlace k j := fun heq => hne (Prod.ext_iff.2 (noticePlace_inj.1 heq))
  refine Option.ext fun c => ?_
  rw [(h.raise k j).pendingCount_eq_some_iff, h.pendingCount_eq_some_iff, mem_raisePending_iff]
  constructor
  · rintro (⟨hm, -⟩ | ⟨n, -, hat, heq⟩ | ⟨-, heq⟩)
    · exact hm
    · exact absurd ((congrArg Notice.place heq).symm.trans hat) hother
    · exact absurd (congrArg Notice.place heq) hother
  · exact fun hm => .inl ⟨hm, hother⟩

/-- Settles O27: the set before and after the raise, by the one entry each kind and subject can have. -/
theorem raiseAddsOrCounts : Obligations.RaiseAddsOrCounts := by
  intro k j n hok count
  obtain ⟨horder, -⟩ := (pendingOk_iff n.pending).1 hok
  refine ⟨hok.raise k j, pendingCount_raise_of_none horder, fun c hsome => ?_,
    fun l i => pendingCount_raise_of_ne horder, rfl, rfl, rfl, fun _ => rfl⟩
  have hmin : (if c < 255 then c + 1 else 255) = min 255 (c + 1) := by split <;> omega
  rw [hmin]
  exact pendingCount_raise_of_some horder hsome

/-! ### SERVICE QUERY and READ NOTICES (R148, R150) -/

theorem exec_serviceQuery {s : State} (h : s.takes) :
    exec .serviceQuery s = .next (s.answered .done ((s.notices.served.map Notice.bytes).getD [0xFF, 0, 0])) :=
  congrArg _ (State.serveRequest_taken h _)

theorem exec_readNotices {s : State} (h : s.takes) :
    exec .readNotices s = .next (s.answered .done (beBytes 1 s.notices.pending.length ++ beBytes 2 s.notices.enables.toNat
      ++ s.notices.pending.flatMap Notice.bytes)) :=
  congrArg _ (State.serveRequest_taken h _)

theorem Notice.bytes_eq (n : Notice) : n.bytes =
    [BitVec.ofNat 8 n.kind.number, BitVec.ofNat 8 n.subject, BitVec.ofNat 8 n.count] := by
  simp [Notice.bytes, beBytes_one]

theorem bytes16_eq (w : BitVec 16) : bytes16 w = beBytes 2 w.toNat := by
  rw [beBytes_two, bytes16]
  congr 1
  exact BitVec.eq_of_toNat_eq (by simp [Nat.shiftRight_eq_div_pow])

/-- The first of some notices in presentation order stands ahead of every other of them. -/
theorem InPresentationOrder.place_lt_of_find? {ns : List Notice} (h : InPresentationOrder ns) {p : Notice → Bool}
    {n m : Notice} (hfind : ns.find? p = some n) (hm : m ∈ ns) (hp : p m = true) (hne : m ≠ n) : n.place < m.place := by
  obtain ⟨-, as, bs, rfl, hbefore⟩ := List.find?_eq_some_iff_append.1 hfind
  have hmem : m ∈ bs := by
    rcases List.mem_append.1 hm with has | hrest
    · exact absurd (hbefore m has) (by simp [hp])
    · exact (List.mem_cons.1 hrest).resolve_left hne
  exact (List.pairwise_cons.1 (List.pairwise_append.1 h).2.1).1 m hmem

/-- A notice that stands ahead of every other one of some notices is the first of them. -/
theorem InPresentationOrder.find?_of_place_lt {ns : List Notice} (h : InPresentationOrder ns) {p : Notice → Bool}
    {n : Notice} (hn : n ∈ ns) (hp : p n = true) (hfirst : ∀ m ∈ ns, p m = true → m ≠ n → n.place < m.place) :
    ns.find? p = some n := by
  obtain ⟨m, hfind⟩ := Option.isSome_iff_exists.1 (List.find?_isSome.2 ⟨n, hn, hp⟩)
  by_cases heq : m = n
  · rw [hfind, heq]
  · have hbehind := hfirst m (List.mem_of_find?_eq_some hfind) (List.find?_some hfind) heq
    exact absurd hbehind (h.place_lt_of_find? hfind hn hp (Ne.symm heq)).asymm

/-- Settles O28: SERVICE QUERY returns the first enabled entry, and in presentation order that is the one ahead of every
other enabled entry. -/
theorem serviceQueryAndReadNotices : Obligations.ServiceQueryAndReadNotices := by
  unfold Obligations.ServiceQueryAndReadNotices
  intro priority number
  have hpriority : priority = NoticeKind.priority := by
    funext k
    cases k <;> rfl
  have hnumber : number = NoticeKind.number := by
    funext k
    cases k <;> rfl
  clear_value priority number
  subst hpriority hnumber
  simp only [← noticePlace_lt_iff]
  refine ⟨fun s n htakes hok hn henabled hfirst => ?_, fun s htakes hnone => ?_, fun s hok ⟨x, hx, henabled⟩ => ?_,
    fun s htakes => ?_, fun s hok => ((pendingOk_iff _).1 hok).1, fun _ => trivial⟩
  · have hserved : s.notices.served = some n := ((pendingOk_iff _).1 hok).1.find?_of_place_lt hn henabled hfirst
    rw [exec_serviceQuery htakes, hserved, ← n.bytes_eq]
    rfl
  · have hserved : s.notices.served = none :=
      List.find?_eq_none.2 fun m hm => by simp only [NoticeUnit.enabled, hnone m hm, Bool.false_eq_true, not_false_eq_true]
    rw [exec_serviceQuery htakes, hserved]
    rfl
  · obtain ⟨n, hserved⟩ : ∃ n, s.notices.served = some n :=
      Option.isSome_iff_exists.1 (List.find?_isSome.2 ⟨x, hx, henabled⟩)
    have hon : s.notices.enabled n.kind = true := List.find?_some (p := fun e : Notice => s.notices.enabled e.kind) hserved
    exact ⟨n, List.mem_of_find?_eq_some hserved, hon, hserved,
      fun m => ((pendingOk_iff _).1 hok).1.place_lt_of_find? hserved⟩
  · have henables : (s.notices.enables.setWidth 16).toNat = s.notices.enables.toNat := by
      rw [BitVec.toNat_setWidth]
      exact Nat.mod_eq_of_lt (s.notices.enables.isLt.trans (by decide))
    rw [exec_readNotices htakes, bytes16_eq, henables, beBytes_one, funext Notice.bytes_eq]

/-! ### ACKNOWLEDGE (R149) -/

/-- R145's subject ranges, by kind number. -/
abbrev SubjectRefused (k j : Nat) : Prop :=
  10 < k ∨ (k = 10 ∧ 2 < j) ∨ (k = 7 ∧ 0 < j) ∨ ((3 ≤ k ∧ k ≤ 6 ∨ k = 9) ∧ 15 < j)
    ∨ ((k ≤ 2 ∨ k = 8) ∧ (j < 1 ∨ 8 < j))

theorem NoticeKind.not_subjectOk (k : NoticeKind) (j : Nat) : (!k.subjectOk j) = decide (SubjectRefused k.number j) := by
  rw [Bool.eq_iff_iff, Bool.not_eq_true', decide_eq_true_eq]
  cases k <;> simp only [NoticeKind.subjectOk, NoticeKind.number, decide_eq_false_iff_not, Bool.and_eq_false_iff] <;> omega

theorem isNotice_eq_number (k : NoticeKind) (j : Nat) :
    isNotice k j = fun n => decide (n.kind.number = k.number ∧ n.subject = j) := by
  funext n
  simp only [isNotice, NoticeKind.number_injective.eq_iff]

theorem State.newSelection_acknowledge (k j : Nat) (s : State) :
    let this := fun (n : Notice) => decide (n.kind.number = k ∧ n.subject = j)
    s.newSelection.acknowledge k j = s.checked
      [(decide (SubjectRefused k j), .range), (!s.notices.pending.any this, .notFound)]
      { s.answered .done [] with notices :=
          { s.notices with pending := s.notices.pending.filter (fun n => !this n) } } := by
  intro this
  rw [State.checked_cons, State.checked_cons, State.checked_nil]
  by_cases hk : 10 < k
  · rw [if_pos (decide_eq_true (.inl hk)), State.acknowledge, NoticeKind.ofNumber_of_gt hk]
    rfl
  · obtain ⟨kind, hkind, rfl⟩ := NoticeKind.ofNumber_of_le (Nat.le_of_not_lt hk)
    have hthis : this = isNotice kind j := (isNotice_eq_number kind j).symm
    rw [State.acknowledge, hkind, ← NoticeKind.not_subjectOk, hthis]
    rfl

/-- Settles O29: BUSY first, then R149's refusals, then the entry of the pair. -/
theorem acknowledgeRemovesOneEntry : Obligations.AcknowledgeRemovesOneEntry := by
  intro kind subject s htakes k j this
  rw [State.checked_cons]
  cases hbusy : s.port.busy.isSome with
  | true => exact congrArg _ (State.takeRequest_busy htakes hbusy _)
  | false =>
    have hidle : s.portIdle := ⟨htakes, Option.not_isSome_iff_eq_none.1 (by simp [hbusy])⟩
    exact (exec_request_idle hidle _).trans (congrArg _ (s.newSelection_acknowledge k j))

/-! ### The watch set (R152, R153, R154) -/

/-- The index that a search for one value finds is the lowest that holds it. -/
theorem findIdx?_of_first {α : Type} {l : List α} {p : α → Bool} {a : α} (hp : ∀ x, p x = true ↔ x = a) {i : Nat}
    (hi : l[i]? = some a) (hbefore : ∀ j < i, l[j]? ≠ some a) : l.findIdx? p = some i := by
  obtain ⟨hlt, hget⟩ := List.getElem?_eq_some_iff.1 hi
  refine List.findIdx?_eq_some_iff_getElem.2 ⟨hlt, (hp _).2 hget, fun j hji hpj => hbefore j hji ?_⟩
  rw [List.getElem?_eq_getElem (hji.trans hlt), (hp _).1 hpj]

theorem findIdx?_eq_none_iff_not_mem {α : Type} {l : List α} {p : α → Bool} {a : α} (hp : ∀ x, p x = true ↔ x = a) :
    l.findIdx? p = none ↔ a ∉ l := by
  simp only [List.findIdx?_eq_none_iff, ← Bool.not_eq_true, hp]
  exact List.forall_mem_ne'

theorem NoticeUnit.watchIndex_of_first {n : NoticeUnit} {key : WatchKey} {i : Nat} (hi : n.watch[i]? = some (some key))
    (hbefore : ∀ j < i, n.watch[j]? ≠ some (some key)) : n.watchIndex key = some i :=
  findIdx?_of_first (fun _ => decide_eq_true_iff) hi hbefore

theorem NoticeUnit.watchIndex_eq_none_iff (n : NoticeUnit) (key : WatchKey) :
    n.watchIndex key = none ↔ some key ∉ n.watch :=
  findIdx?_eq_none_iff_not_mem fun _ => decide_eq_true_iff

/-- The lowest index that no key holds (R152); 0 where every index is held. -/
def NoticeUnit.freeIndex (n : NoticeUnit) : Nat := (n.watch.findIdx? (·.isNone)).getD 0

theorem NoticeUnit.freeIndex_of_first {n : NoticeUnit} {i : Nat} (hi : n.watch[i]? = some none)
    (hbefore : ∀ j < i, n.watch[j]? ≠ some none) : n.freeIndex = i := by
  rw [NoticeUnit.freeIndex, findIdx?_of_first (fun _ => Option.isNone_iff_eq_none) hi hbefore, Option.getD_some]

theorem watchKeyOf_eq (slot point : Nat) : watchKeyOf slot point =
    if 15 < slot ∨ 23 < point then none else some { slot := slot, point := point } := by
  simp only [watchKeyOf, slotInRange, pointInRange, decide_eq_true_eq, ← Nat.not_lt, ← not_or, ite_not]

theorem State.watchAdd_of_range {slot point : Nat} (h : 15 < slot ∨ 23 < point) (s : State) :
    s.watchAdd slot point = s.answerCode .range := by
  simp only [State.watchAdd, watchKeyOf_eq, if_pos h]

theorem State.watchAdd_of_inRange {slot point : Nat} (hrange : ¬ (15 < slot ∨ 23 < point)) (s : State) :
    let key : WatchKey := { slot := slot, point := point }
    s.watchAdd slot point = if some key ∈ s.notices.watch then s.answerCode .duplicate
      else if none ∉ s.notices.watch then s.answerCode .full else
        { s.answer .done [BitVec.ofNat 8 s.notices.freeIndex] with
          notices := { s.notices with watch := s.notices.watch.set s.notices.freeIndex (some key) } } := by
  intro key
  simp only [State.watchAdd, watchKeyOf_eq, if_neg hrange, Option.isSome_iff_ne_none, ne_eq, NoticeUnit.watchIndex_eq_none_iff,
    not_not, ← beBytes_one, NoticeUnit.freeIndex, ← findIdx?_eq_none_iff_not_mem (fun _ => Option.isNone_iff_eq_none)]
  cases s.notices.watch.findIdx? (·.isNone) <;> rfl

theorem State.newSelection_watchAdd (slot point : Nat) (s : State) :
    let key : WatchKey := { slot := slot, point := point }
    s.newSelection.watchAdd slot point = s.checked
      [ (decide (15 < slot ∨ 23 < point), .range), (decide (some key ∈ s.notices.watch), .duplicate),
        (decide (none ∉ s.notices.watch), .full) ]
      { s.answered .done [BitVec.ofNat 8 s.notices.freeIndex] with
        notices := { s.notices with watch := s.notices.watch.set s.notices.freeIndex (some key) } } := by
  intro key
  simp only [State.checked_cons, State.checked_nil, decide_eq_true_eq]
  by_cases hrange : 15 < slot ∨ 23 < point
  · rw [if_pos hrange, State.watchAdd_of_range hrange, State.newSelection_answerCode]
  · rw [if_neg hrange]
    exact State.watchAdd_of_inRange hrange s.newSelection

theorem State.watchRemove_of_range {slot point : Nat} (h : 15 < slot ∨ 23 < point) (s : State) :
    s.watchRemove slot point = s.answerCode .range := by
  simp only [State.watchRemove, watchKeyOf_eq, if_pos h]

theorem State.watchRemove_of_inRange {slot point : Nat} (hrange : ¬ (15 < slot ∨ 23 < point)) (s : State) :
    let key : WatchKey := { slot := slot, point := point }
    s.watchRemove slot point = if some key ∉ s.notices.watch then s.answerCode .notFound else
      { s.answerCode .done with
        notices := { s.notices with watch := s.notices.watch.set ((s.notices.watchIndex key).getD 0) none } } := by
  intro key
  simp only [State.watchRemove, watchKeyOf_eq, if_neg hrange, ← NoticeUnit.watchIndex_eq_none_iff]
  cases s.notices.watchIndex key <;> rfl

theorem State.newSelection_watchRemove (slot point : Nat) (s : State) :
    let key : WatchKey := { slot := slot, point := point }
    s.newSelection.watchRemove slot point = s.checked
      [(decide (15 < slot ∨ 23 < point), .range), (decide (some key ∉ s.notices.watch), .notFound)]
      { s.answered .done [] with
        notices := { s.notices with watch := s.notices.watch.set ((s.notices.watchIndex key).getD 0) none } } := by
  intro key
  simp only [State.checked_cons, State.checked_nil, decide_eq_true_eq]
  by_cases hrange : 15 < slot ∨ 23 < point
  · rw [if_pos hrange, State.watchRemove_of_range hrange, State.newSelection_answerCode]
  · rw [if_neg hrange]
    exact State.watchRemove_of_inRange hrange s.newSelection

theorem State.checked_of_refused {table : List (Bool × ResultCode)} {code : ResultCode} (h : firstRefusal table = some code)
    (s t : State) : s.checked table t = s.answered code [] := by
  rw [State.checked, h]

theorem State.checked_of_taken {table : List (Bool × ResultCode)} (h : firstRefusal table = none) (s t : State) :
    s.checked table t = t := by
  rw [State.checked, h]

/-- Settles O30: the two requests by their refusals in order, and the raise by the index found. -/
theorem watchAddAndWatchRemove : Obligations.WatchAddAndWatchRemove := by
  refine ⟨fun slot point s hidle => ?_, fun slot point s hidle => ?_, fun n key i hi hbefore => ?_, fun n key hno => ?_⟩
  · intro key refusals
    have hexec := (exec_request_idle hidle _).trans (congrArg _ (s.newSelection_watchAdd slot.toNat point.toNat))
    refine ⟨fun code hcode => hexec.trans (congrArg _ (State.checked_of_refused hcode ..)), fun i htaken hi hbefore => ?_⟩
    rw [NoticeUnit.freeIndex_of_first hi hbefore] at hexec
    exact hexec.trans (congrArg _ (State.checked_of_taken htaken ..))
  · intro key refusals
    have hexec := (exec_request_idle hidle _).trans (congrArg _ (s.newSelection_watchRemove slot.toNat point.toNat))
    refine ⟨fun code hcode => hexec.trans (congrArg _ (State.checked_of_refused hcode ..)), fun i htaken hi hbefore => ?_⟩
    rw [NoticeUnit.watchIndex_of_first hi hbefore] at hexec
    exact hexec.trans (congrArg _ (State.checked_of_taken htaken ..))
  · simp only [NoticeUnit.raiseWatch, NoticeUnit.watchIndex_of_first hi hbefore]
  · simp only [NoticeUnit.raiseWatch, (n.watchIndex_eq_none_iff key).2 hno]

end Sys2Proof.Machine
end

section
/-! PROOFS. What each command does to the pending set, and the statement that every step keeps its form (08 sections 8.1,
8.4). -/

namespace Sys2Proof.Machine

/-! ### Raises and leaving entries -/

/-- A pending set that comes of another by raises (R144) and by entries leaving it (R149, R155). -/
inductive PendingSteps (ns : List Notice) : List Notice → Prop
  | same : PendingSteps ns ns
  | raised {ms : List Notice} (k : NoticeKind) (j : Nat) (h : PendingSteps ns ms) : PendingSteps ns (raisePending k j ms)
  | left {ms ls : List Notice} (h : PendingSteps ns ms) (hsub : ls.Sublist ms) : PendingSteps ns ls

theorem PendingSteps.trans {ns ms ls : List Notice} (h : PendingSteps ns ms) (hnext : PendingSteps ms ls) :
    PendingSteps ns ls := by
  induction hnext with
  | same => exact h
  | raised k j _ ih => exact .raised k j ih
  | left _ hsub ih => exact .left ih hsub

theorem PendingSteps.pendingOk {ns ms : List Notice} (h : PendingSteps ns ms) (hok : PendingOk ns) : PendingOk ms := by
  induction h with
  | same => exact hok
  | raised k j _ ih => exact ih.raise k j
  | left _ hsub ih => exact ih.sublist hsub

/-- The pending set of a state comes of another's by raises and by entries leaving it. -/
def State.Notifies (s t : State) : Prop := PendingSteps s.notices.pending t.notices.pending

namespace State.Notifies

variable {s t u : State}

theorem refl (s : State) : s.Notifies s := .same

theorem trans (h : s.Notifies t) (hnext : t.Notifies u) : s.Notifies u := PendingSteps.trans h hnext

/-- An operation on another block changes nothing here. -/
theorem congr (h : s.Notifies t) (heq : u.notices = t.notices) : s.Notifies u := by
  rw [State.Notifies, heq]
  exact h

theorem of_eq (h : t.notices = s.notices) : s.Notifies t := (refl s).congr h

theorem of_blocks (h : t.blocks = s.blocks) : s.Notifies t := by
  simp only [State.blocks, Prod.mk.injEq] at h
  obtain ⟨-, -, -, -, -, -, -, -, hpending⟩ := h
  rw [State.Notifies, hpending]
  exact .same

theorem raise (h : s.Notifies t) (k : NoticeKind) (j : Nat) : s.Notifies (t.raise k j) := .raised k j h

theorem raiseIf (h : s.Notifies t) (c : Bool) (k : NoticeKind) (j : Nat) : s.Notifies (t.raiseIf c k j) := by
  cases c with
  | true => exact h.raise k j
  | false => exact h

end State.Notifies

/-- WATCH at a key's index, if it has one (R154). -/
theorem NoticeUnit.raiseWatch_steps (key : WatchKey) (n : NoticeUnit) :
    PendingSteps n.pending (n.raiseWatch key).pending := by
  rcases n.raiseWatch_cases key with heq | ⟨i, -, heq⟩ <;> rw [heq]
  · exact .same
  · exact .raised .watch i .same

theorem State.Notifies.raiseWatch {s t : State} (h : s.Notifies t) (slot point : Nat) : s.Notifies (t.raiseWatch slot point) :=
  h.trans (t.notices.raiseWatch_steps _)

theorem foldl_raiseWatch_steps (key : PeerEntry → WatchKey) (gone : List PeerEntry) (n : NoticeUnit) :
    PendingSteps n.pending (gone.foldl (fun n e => n.raiseWatch (key e)) n).pending := by
  induction gone generalizing n with
  | nil => exact .same
  | cons e es ih => exact (n.raiseWatch_steps (key e)).trans (ih _)

/-! ### Requests at the port -/

theorem State.serveRequest_notifies {body : State → State} (h : ∀ s : State, s.Notifies (body s)) (s : State) :
    s.Notifies (s.serveRequest body) := by
  unfold State.serveRequest
  split
  · exact .refl s
  · exact h s.newSelection

theorem State.serveRequest_answer_notifies (code : ResultCode) (data : State → List Byte) (s : State) :
    s.Notifies (s.serveRequest fun t => t.answer code (data t)) :=
  State.serveRequest_notifies (fun t => .of_eq (t.answer_notices code (data t))) s

/-- A request is ignored, refused with BUSY, or taken in a new selection. -/
theorem State.takeRequest_notifies_of_new {body : State → State} (h : ∀ s : State, s.Notifies (body s.newSelection))
    (s : State) : s.Notifies (s.takeRequest body) := by
  unfold State.takeRequest State.serveRequest
  split
  · exact .refl s
  · dsimp only
    split
    · exact .refl s
    · exact h s

theorem State.takeRequest_notifies {body : State → State} (h : ∀ s : State, s.Notifies (body s)) (s : State) :
    s.Notifies (s.takeRequest body) :=
  State.takeRequest_notifies_of_new (fun t => h t.newSelection) s

/-- A refusal answers and changes nothing else, so what counts of a checked request is what it does where it is taken. -/
theorem State.Notifies.of_checked {s t u : State} {refusals : List (Bool × ResultCode)} (h : u = s.checked refusals t)
    (htaken : s.Notifies t) : s.Notifies u := by
  rw [h]
  unfold State.checked
  split
  · exact .refl s
  · exact htaken

/-- An entry acknowledged leaves the set (R149). -/
theorem State.acknowledge_notifies (kind subject : Nat) (s : State) :
    s.Notifies (s.newSelection.acknowledge kind subject) :=
  .of_checked (s.newSelection_acknowledge kind subject) (.left .same List.filter_sublist)

theorem State.post_notices (point epoch : Nat) (raw : RawFigures) (s : State) :
    (s.post point epoch raw).notices = s.notices := by
  unfold State.post
  split <;> rfl

theorem State.start_notices (s : State) : s.start.notices = s.notices := by
  unfold State.start
  split <;> rfl

theorem State.linkReset_notices (s : State) : s.linkReset.notices = s.notices := by
  cases hrunning : s.running with
  | false => rw [State.linkReset_of_not_running hrunning, State.answerCode_notices]
  | true => rw [State.linkReset_of_running hrunning, State.linkResetStep_eq, State.complete_notices, State.accept_notices]

theorem State.readPoint_notices (k : Nat) (s : State) : (s.readPoint k).notices = s.notices := by
  unfold State.readPoint
  split
  · rfl
  · split
    · rfl
    · split <;> rfl

theorem State.readEntry_notices (form first second : Nat) (s : State) :
    (s.readEntry form first second).notices = s.notices := by
  unfold State.readEntry
  split
  · rfl
  · extract_lets found
    have hfound (o : Option (List Byte)) : (found o).notices = s.notices := by cases o <;> rfl
    split
    · split
      · exact hfound _
      · rfl
    · exact hfound _
    · rfl

theorem State.readParcel_notices (p : Nat) (s : State) : (s.readParcel p).notices = s.notices := by
  unfold State.readParcel
  split
  · rfl
  · split
    · rfl
    · split <;> rfl

theorem State.readAttest_notices (p epoch : Nat) (s : State) : (s.readAttest p epoch).notices = s.notices := by
  unfold State.readAttest
  split
  · rfl
  · split
    · rfl
    · rfl
    · split <;> rfl

theorem State.walk_notices (index : Nat) (s : State) : (s.walk index).notices = s.notices := by
  unfold State.walk
  split <;> rfl

/-! ### Own points, attestation and the Balance Engine -/

theorem State.stuComputed_notices (s : State) : s.stuComputed.notices = s.notices := by
  unfold State.stuComputed
  split
  · split
    · rfl
    · dsimp only
      split
      · exact State.handResults_notices ..
      · rfl
  · rfl

/-- A POST stored raises LIMIT for a limited observation, and WATCH (R13, R31). -/
theorem State.postStore_notifies (s : State) : s.Notifies s.postStore := by
  unfold State.postStore
  split
  · split
    · exact .refl s
    · split
      · exact .refl s
      · extract_lets e observation table kept stored requested limited marked
        exact ((State.Notifies.of_eq (t := requested) rfl).raiseIf _ _ _).raiseWatch _ _
  · exact .refl s

theorem State.withdrawalMade_notifies (s : State) : s.Notifies s.withdrawalMade := by
  unfold State.withdrawalMade
  split
  · split
    · exact .refl s
    · split
      · exact .refl s
      · extract_lets table withdrawn requested marked
        exact (State.Notifies.of_eq (t := requested) rfl).raiseWatch _ _
  · exact .refl s

theorem State.finaliseMade_notices (s : State) : s.finaliseMade.notices = s.notices := by
  unfold State.finaliseMade
  split <;> rfl

/-- RESTART empties the set (R155). -/
theorem State.restartChange_notifies (s : State) : s.Notifies s.restartChange := by
  unfold State.restartChange
  split
  · exact .left .same (List.nil_sublist _)
  · exact .refl s

theorem State.intakeHoldSet_notices (s : State) : s.intakeHoldSet.notices = s.notices := by
  unfold State.intakeHoldSet
  split <;> rfl

theorem State.attestScanComplete_notices (s : State) : s.attestScanComplete.notices = s.notices := by
  unfold State.attestScanComplete
  split <;> rfl

theorem State.comparisonComplete_notifies (s : State) : s.Notifies s.comparisonComplete := by
  unfold State.comparisonComplete
  split
  · extract_lets equal released
    refine State.Notifies.raiseIf ?_ _ _ _
    exact .of_eq rfl
  · exact .refl s

theorem State.balanceTake_notices (s : State) : s.balanceTake.notices = s.notices := by
  unfold State.balanceTake
  split <;> rfl

theorem State.Notifies.raiseEdge {s t : State} (h : s.Notifies t) (p : Nat) (old new : Verdict) :
    s.Notifies (t.raiseEdge p old new) := by
  unfold State.raiseEdge
  split
  · exact h.raise ..
  · exact h

theorem State.balanceComplete_notifies (s : State) : s.Notifies s.balanceComplete := by
  unfold State.balanceComplete
  split
  · split
    · split
      · exact .of_eq rfl
      · extract_lets result engine stored
        refine State.Notifies.raiseEdge ?_ _ _ _
        exact .of_eq rfl
      · exact .refl s
      · exact .refl s
    · exact .refl s
  · exact .refl s

/-! ### The line and the timers -/

theorem State.turnGap_notices (s : State) : s.turnGap.notices = s.notices := by
  unfold State.turnGap
  split
  · dsimp only
    split
    · rfl
    · rfl
    · split <;> rfl
  · rfl

theorem State.sendComplete_notices (stopDominant : Bool) (s : State) :
    (s.sendComplete stopDominant).notices = s.notices := by
  unfold State.sendComplete
  split
  · split <;> rfl
  · rfl

theorem State.clash_notices (s : State) : s.clash.notices = s.notices := by
  unfold State.clash
  split
  · split <;> rfl
  · rfl

/-- The sixteenth clash in a row raises LINK_FAULT(1) (R98). -/
theorem State.clashMarkEnd_notifies (s : State) : s.Notifies s.clashMarkEnd := by
  unfold State.clashMarkEnd
  split
  · split
    · refine State.Notifies.raise ?_ _ _
      exact .of_eq rfl
    · exact .of_eq rfl
  · exact .refl s

/-- The sixteenth failed reception in a row raises LINK_FAULT(0) (R99). -/
theorem State.failReception_notifies (s : State) : s.Notifies s.failReception := by
  unfold State.failReception
  extract_lets counted
  refine State.Notifies.raiseIf ?_ _ _ _
  exact .of_eq rfl

/-- A frame of the own slot raises LINK_FAULT(2) (R100). -/
theorem State.validFrame_notifies (f : Frame) (s : State) : s.Notifies (s.validFrame f) := by
  unfold State.validFrame
  dsimp only
  split
  · refine State.Notifies.raise ?_ _ _
    exact .of_eq rfl
  · exact .of_eq rfl

theorem State.frameReceived_notifies (bytes : List Byte) (s : State) : s.Notifies (s.frameReceived bytes) := by
  have hround : s.Notifies (match Frame.ofBytes bytes with
      | some f => (s.mapLau (Lau.heardLevels bytes)).validFrame f
      | none => (s.mapLau (Lau.heardLevels bytes)).failReception) := by
    split
    · exact State.validFrame_notifies _ (s.mapLau (Lau.heardLevels bytes))
    · exact State.failReception_notifies (s.mapLau (Lau.heardLevels bytes))
  unfold State.frameReceived
  split
  · exact .refl s
  · exact .refl s
  · exact .refl s
  · exact .of_eq rfl
  · exact .of_eq rfl
  · exact hround
  · exact hround

theorem State.silenceExpired_notifies (slot : Nat) (s : State) : s.Notifies (s.silenceExpired slot) := by
  unfold State.silenceExpired
  dsimp only
  split
  · exact (State.Notifies.of_eq (State.setPeer_notices ..)).raise _ _
  · exact .refl s

theorem State.republishExpired_notices (s : State) : s.republishExpired.notices = s.notices := by
  unfold State.republishExpired
  split
  · dsimp only
    split <;> rfl
  · rfl

/-! ### A frame's way through the Frame Intake (R111 to R122) -/

/-- A removal raises WATCH for each watched key removed (R42, R43). -/
theorem State.removeEntries_notifies (gone : List PeerEntry) (s : State) : s.Notifies (s.removeEntries gone) := by
  by_cases hgone : gone = []
  · subst hgone
    exact .refl s
  · rw [State.removeEntries_of_ne_nil hgone]
    exact foldl_raiseWatch_steps _ gone s.notices

theorem State.dropStation_notifies (slot : Nat) (s : State) : s.Notifies (s.dropStation slot) :=
  s.removeEntries_notifies _

theorem State.mismatched_notifies (slot : Nat) (p : PresenceBody) (s : State) : s.Notifies (s.mismatched slot p) := by
  unfold State.mismatched
  extract_lets counted dropped
  split
  · exact .of_eq (State.updatePeer_notices ..)
  · exact ((counted.dropStation_notifies slot).congr (State.updatePeer_notices ..)).raise _ _

theorem State.acceptFrame_notifies (f : Frame) (b : Body) (j : Judgement) (s : State) : s.Notifies (s.acceptFrame f b j) := by
  unfold State.acceptFrame
  extract_lets slot returned kept before
  have hreturned : s.Notifies returned := by
    unfold returned
    refine State.Notifies.raiseIf ?_ _ _ _
    exact .of_eq rfl
  have hkept : s.Notifies kept := by
    unfold kept
    split
    · exact hreturned.trans (returned.dropStation_notifies slot)
    · exact hreturned
  exact hkept.congr (State.writePeer_notices ..)

theorem State.discardFrame_notices (slot : Nat) (s : State) : (s.discardFrame slot).notices = s.notices := by
  unfold State.discardFrame
  split <;> rfl

theorem State.judge_notifies (f : Frame) (b : Body) (s : State) : s.Notifies (s.judge f b).1 := by
  unfold State.judge
  dsimp only
  split
  · exact s.mismatched_notifies ..
  · exact .of_eq (State.discardFrame_notices ..)
  · exact s.acceptFrame_notifies ..

theorem State.route_notifies (slot : Nat) (b : Body) (s : State) : s.Notifies (s.route slot b) := by
  rcases s.route_cases slot b with hchecked | ⟨point, kindCode, parcel, e, -, -, -, hroute⟩
  · rcases hchecked.raised with heq | ⟨-, heq⟩
    · exact .of_eq heq
    · exact ((State.Notifies.refl s).raise .tableFull 0).congr heq
  · rw [hroute]
    exact s.removeEntries_notifies _

theorem State.handleFrame_notifies (f : Frame) (s : State) : s.Notifies (s.handleFrame f) := by
  unfold State.handleFrame
  extract_lets slot
  split
  · exact .of_eq rfl
  · split
    · exact .of_eq rfl
    · next b _ =>
      have hjudge := s.judge_notifies f b
      split
      · next t heq =>
        rw [heq] at hjudge
        exact hjudge.trans (t.route_notifies slot b)
      · next t heq =>
        rw [heq] at hjudge
        exact hjudge

theorem State.takeFrame_notifies (s : State) : s.Notifies s.takeFrame := by
  unfold State.takeFrame
  split
  · exact .refl s
  · next f rest _ =>
    split
    · exact State.handleFrame_notifies f { s with intake := { s.intake with queue := rest } }
    · exact .refl s

/-- A merge raises COMPUTE_MISMATCH, LIMIT and WATCH (R13, R16, R41). -/
theorem State.frameMerge_notifies (s : State) : s.Notifies s.frameMerge := by
  unfold State.frameMerge
  split
  · extract_lets old entry table intake merged requested differs flagged
    have hflagged : s.Notifies flagged := by
      unfold flagged
      split
      · exact .of_eq (State.updatePeer_notices ..)
      · exact .of_eq rfl
    exact ((hflagged.raiseIf _ _ _).raiseIf _ _ _).raiseWatch _ _
  · exact .refl s

/-! ### Every step -/

/-- What a command can do to the pending set. -/
theorem exec_notifies (c : Instr) (s : State) : s.Notifies (s.after c) := by
  cases c with
  | powerOnReset byInput => exact .left .same (List.nil_sublist _)
  | unknownRequest code =>
    show s.Notifies (if (paramBytes code).isNone then s.serveRequest (State.answerCode .unknown) else s)
    split
    · exact State.serveRequest_answer_notifies .unknown (fun _ => []) s
    · exact .refl s
  | earlyDeselection bits => exact .of_blocks (s.earlyDeselection_blocks bits)
  | status => exact State.serveRequest_answer_notifies .done State.statusBytes s
  | identify => exact State.serveRequest_answer_notifies .done (fun _ => identifyBytes) s
  | sheetBegin number revision ownSlot direction amendMode silence republish =>
    exact State.takeRequest_notifies (fun t => .of_blocks (t.sheetBegin_blocks _)) s
  | sheetParcel parcel tRef a b d vef inner outer custody =>
    exact State.takeRequest_notifies (fun t => .of_blocks (t.define_blocks _)) s
  | sheetRoster slot role => exact State.takeRequest_notifies (fun t => .of_blocks (t.define_blocks _)) s
  | sheetPoint point parcel meterFactor => exact State.takeRequest_notifies (fun t => .of_blocks (t.define_blocks _)) s
  | sheetEnd => exact State.takeRequest_notifies (fun t => .of_blocks t.sheetEnd_blocks) s
  | sheetEndComplete => exact .of_blocks s.sheetEndComplete_blocks
  | start => exact State.takeRequest_notifies (fun t => .of_eq t.start_notices) s
  | post point epoch quantity water temperature =>
    exact State.takeRequest_notifies (fun t => .of_eq (t.post_notices _ _ _)) s
  | stuGrant => exact .of_eq rfl
  | stuObservationComputed => exact .of_eq s.stuComputed_notices
  | postStore => exact s.postStore_notifies
  | permit => exact State.takeRequest_notifies_of_new (fun t => .of_checked (t.newSelection_setPermit true) (.of_eq rfl)) s
  | revoke => exact State.takeRequest_notifies_of_new (fun t => .of_checked (t.newSelection_setPermit false) (.of_eq rfl)) s
  | withdraw point => exact State.takeRequest_notifies_of_new (fun t => .of_checked (t.newSelection_withdraw _) (.of_eq rfl)) s
  | withdrawalMade => exact s.withdrawalMade_notifies
  | finalise => exact State.takeRequest_notifies_of_new (fun t => .of_checked t.newSelection_finalise (.of_eq rfl)) s
  | finaliseMade => exact .of_eq s.finaliseMade_notices
  | attest parcel epoch =>
    exact State.takeRequest_notifies_of_new (fun t => .of_checked (t.newSelection_attestRequest _ _) (.of_eq rfl)) s
  | intakeHoldSet => exact .of_eq s.intakeHoldSet_notices
  | attestScanComplete => exact .of_eq s.attestScanComplete_notices
  | restart => exact State.takeRequest_notifies_of_new (fun t => .of_checked t.newSelection_restart (.of_eq rfl)) s
  | restartChange => exact s.restartChange_notifies
  | linkReset => exact State.takeRequest_notifies (fun t => .of_eq t.linkReset_notices) s
  | serviceQuery => exact State.serveRequest_answer_notifies .done _ s
  | acknowledge kind subject => exact State.takeRequest_notifies_of_new (State.acknowledge_notifies _ _) s
  | noticeEnable kind setting => exact State.takeRequest_notifies (fun t => .of_blocks (t.noticeEnable_blocks _ _)) s
  | edgeSelect parcel setting => exact State.takeRequest_notifies (fun t => .of_blocks (t.edgeSelect_blocks _ _)) s
  | watchAdd slot point => exact State.takeRequest_notifies (fun t => .of_blocks (t.watchAdd_blocks _ _)) s
  | watchRemove slot point => exact State.takeRequest_notifies (fun t => .of_blocks (t.watchRemove_blocks _ _)) s
  | readPoint point => exact State.serveRequest_notifies (fun t => .of_eq (t.readPoint_notices _)) s
  | readEntry form first second => exact State.serveRequest_notifies (fun t => .of_eq (t.readEntry_notices _ _ _)) s
  | readParcel parcel => exact State.serveRequest_notifies (fun t => .of_eq (t.readParcel_notices _)) s
  | readAttest parcel epoch => exact State.serveRequest_notifies (fun t => .of_eq (t.readAttest_notices _ _)) s
  | readPeer slot => exact State.serveRequest_notifies (fun t => .of_blocks (t.readPeer_blocks _)) s
  | readCounters => exact State.serveRequest_answer_notifies .done State.counterBytes s
  | readNotices => exact State.serveRequest_answer_notifies .done _ s
  | walk index => exact State.serveRequest_notifies (fun t => .of_eq (t.walk_notices _)) s
  | walkRecordTaken => exact .of_blocks s.walkNext_blocks
  | walkDeselected => exact .of_eq rfl
  | quiet => exact .of_eq rfl
  | claimDecision => exact .of_eq rfl
  | windowEnd => exact .of_eq rfl
  | turnGap => exact .of_eq s.turnGap_notices
  | turnTimeout => exact .of_eq rfl
  | sendComplete stopDominant => exact .of_eq (s.sendComplete_notices stopDominant)
  | clash => exact .of_eq s.clash_notices
  | clashMarkEnd => exact s.clashMarkEnd_notifies
  | receptionFailed =>
    show s.Notifies (if s.lau.line = .round .receiving then s.failReception else s)
    split
    · exact s.failReception_notifies
    · exact .refl s
  | frameReceived bytes => exact s.frameReceived_notifies bytes
  | intakeTakeFrame => exact s.takeFrame_notifies
  | frameMerge => exact s.frameMerge_notifies
  | comparisonComplete => exact s.comparisonComplete_notifies
  | balanceTake => exact .of_eq s.balanceTake_notices
  | balanceComplete => exact s.balanceComplete_notifies
  | silenceTimerExpiry slot => exact s.silenceExpired_notifies slot.toNat
  | presenceTimerExpiry => exact .of_eq rfl
  | republishTimerExpiry => exact .of_eq s.republishExpired_notices
  | dominantLevelRead startBit => exact .of_eq rfl
  | claimSlotSample slot dominant => exact .of_eq rfl
  | resetReleased selLow => exact .of_blocks (s.resetReleased_blocks selLow)

/-- What a step can do to the pending set: raises, and entries leaving it. -/
theorem step_notifies {s t : State} (h : step s = .next t) : s.Notifies t := by
  rcases step_cases h with ⟨-, rfl⟩ | ⟨c, rest, -, hexec⟩
  · exact .of_eq rfl
  · rw [exec_next, Host.Outcome.next.injEq] at hexec
    exact hexec ▸ exec_notifies c { s with pending := rest }

/-- Settles O53: a step only raises notices and lets entries leave, and both keep the form of the set. -/
theorem pendingSetStaysOrderedAndDistinct : Obligations.PendingSetStaysOrderedAndDistinct :=
  fun _ _ hok hstep => (step_notifies hstep).pendingOk hok

end Sys2Proof.Machine
end

section
/-! PROOFS. The bytes of replies as fields of fixed widths: IDENTIFY, STATUS and READ COUNTERS (09 sections 9.5, 9.8; 10
section 10.3). -/

namespace Sys2Proof.Machine

/-! ### Fields read back -/

/-- A field of bytes that are packed fields of known widths. -/
theorem fieldAt_of_packed {bytes : List Byte} {fields : List (Nat × Nat)} (hbytes : bytes = packed fields)
    {widths : List Nat} (hwidths : fields.map (·.1) = widths) {i offset w n : Nat} (h : fields[i]? = some (w, n))
    (hoffset : (widths.take i).sum = offset) (hn : n < 256 ^ w) : fieldAt bytes offset w = n := by
  rw [hbytes, ← hoffset, ← hwidths, ← List.map_take, ← List.append_nil (packed fields)]
  exact fieldAt_packed h hn []

theorem length_of_packed {bytes : List Byte} {fields : List (Nat × Nat)} (hbytes : bytes = packed fields)
    {widths : List Nat} (hwidths : fields.map (·.1) = widths) : bytes.length = widths.sum := by
  rw [hbytes, packed_length, hwidths]

theorem beBytes_toNat (b : Byte) : beBytes 1 b.toNat = [b] := by rw [beBytes_one, BitVec.ofNat_toNat, BitVec.setWidth_eq]

/-- A word of `w` bytes fits a field of `w` bytes. -/
theorem word_lt (w : Nat) (x : BitVec (8 * w)) : x.toNat < 256 ^ w := x.isLt.trans_eq (Nat.pow_mul 2 8 w)

theorem flagByte_toNat (b : Bool) : (flagByte b).toNat = if b then 1 else 0 := by cases b <;> rfl

/-! ### IDENTIFY (R164) -/

theorem exec_identify {s : State} (h : s.takes) : exec .identify s = .next (s.answered .done identifyBytes) :=
  congrArg _ (State.serveRequest_taken h _)

/-- Settles O4: the reply's bytes are the configured values. -/
theorem identifyReply : Obligations.IdentifyReply := fun _ h => exec_identify h

/-! ### STATUS (R147, R163) -/

theorem exec_status {s : State} (h : s.takes) : exec .status s = .next (s.answered .done s.statusBytes) :=
  congrArg _ (State.serveRequest_taken h _)

/-- The fields of the STATUS reply (R171). -/
def State.statusFields (s : State) : List (Nat × Nat) :=
  [(1, (flagByte s.port.busy.isSome).toNat), (1, (s.port.busy.map LongOp.code).getD 0), (1, s.port.last.code),
    (1, s.sheet.reason), (1, s.sheet.node.code), (4, (s.header?.map (·.number)).getD 0),
    (2, (s.header?.map (·.revision)).getD 0), (4, s.table.changeCount.toNat), (1, s.table.own.length),
    (1, s.table.entries.length), (1, (flagByte (decide (s.lau.line ≠ .off))).toNat), (1, (flagByte s.lau.mute).toNat),
    (2, s.pub.sequence.toNat), (1, s.pub.generation.toNat), (1, (flagByte s.table.permit).toNat),
    (2, s.notices.enables.toNat), (1, (flagByte s.noticeLow).toNat)]

theorem State.statusBytes_eq (s : State) : s.statusBytes = packed s.statusFields := by
  simp only [State.statusBytes, State.statusFields, packed, List.flatMap_cons, List.flatMap_nil, beBytes_toNat,
    List.append_assoc, List.append_nil]

/-- The widths of the STATUS reply's fields (R171). -/
def statusWidths : List Nat := [1, 1, 1, 1, 1, 4, 2, 4, 1, 1, 1, 1, 2, 1, 1, 2, 1]

theorem State.statusBytes_length (s : State) : s.statusBytes.length = 26 :=
  length_of_packed s.statusBytes_eq (widths := statusWidths) rfl

/-- The i-th field of the STATUS reply reads back at its offset. -/
theorem State.fieldAt_status (s : State) (i : Nat) {offset w n : Nat} (h : s.statusFields[i]? = some (w, n))
    (hoffset : (statusWidths.take i).sum = offset) (hn : n < 256 ^ w) : fieldAt s.statusBytes offset w = n :=
  fieldAt_of_packed s.statusBytes_eq (widths := statusWidths) rfl h hoffset hn

theorem LongOp.code_lt (op : LongOp) : op.code < 256 := by cases op <;> simp [LongOp.code]

theorem ResultCode.code_lt (code : ResultCode) : code.code < 256 := by cases code <;> decide

theorem NodeState.code_lt (n : NodeState) : n.code < 256 := by cases n <;> decide

/-- While requests are taken the NOTICE bit tells whether a pending entry's kind is enabled (R147). -/
theorem State.noticeLow_iff {s : State} (h : s.takes) :
    s.noticeLow = true ↔ ∃ n ∈ s.notices.pending, s.notices.enables.getLsbD n.kind.number = true := by
  simp [State.noticeLow, h.1, NoticeUnit.enabled]

/-- The sheet's number and revision fit their fields, 0 where no sheet is held. -/
theorem State.header_fits {s : State}
    (h : ∀ sh ∈ s.sheet.sheet, sh.header.number ≤ 4294967295 ∧ sh.header.revision ≤ 65535) :
    (s.header?.map (·.number)).getD 0 < 256 ^ 4 ∧ (s.header?.map (·.revision)).getD 0 < 256 ^ 2 := by
  cases hsheet : s.sheet.sheet with
  | none => simp [State.header?, hsheet]
  | some sh =>
    obtain ⟨hnumber, hrevision⟩ := h sh hsheet
    simp only [State.header?, hsheet, Option.map_some, Option.getD_some]
    omega

theorem State.operation_fits (s : State) : (s.port.busy.map LongOp.code).getD 0 < 256 := by
  cases s.port.busy with
  | none => decide
  | some op => exact op.code_lt

/-! ### READ COUNTERS (R167) -/

theorem exec_readCounters {s : State} (h : s.takes) :
    exec .readCounters s = .next (s.answered .done s.counterBytes) :=
  congrArg _ (State.serveRequest_taken h _)

/-- The fields of the READ COUNTERS reply (R171). -/
def State.counterFields (s : State) : List (Nat × Nat) :=
  s.counters.map (fun n => (4, n)) ++ [(1, s.intake.queue.length), (1, (flagByte s.table.permit).toNat)]

theorem State.counterBytes_eq (s : State) : s.counterBytes = packed s.counterFields := by
  rw [State.counterFields, packed_append, State.counterBytes, List.append_assoc, packed, List.flatMap_map]
  simp only [packed, List.flatMap_cons, List.flatMap_nil, beBytes_toNat, List.append_nil]

theorem State.counterFields_getElem? (s : State) {i : Nat} (hi : i < 13) :
    s.counterFields[i]? = some (4, s.counters.getD i 0) := by
  have hlt : i < s.counters.length := hi
  rw [State.counterFields, List.getElem?_append_left (by simpa using hlt), List.getElem?_map, List.getD_eq_getElem?_getD,
    List.getElem?_eq_getElem hlt]
  rfl

/-- The widths of the READ COUNTERS reply's fields (R171). -/
def counterWidths : List Nat := List.replicate 13 4 ++ [1, 1]

theorem State.counterBytes_length (s : State) : s.counterBytes.length = 54 :=
  length_of_packed s.counterBytes_eq (widths := counterWidths) rfl

/-- The i-th field of the READ COUNTERS reply reads back at its offset. -/
theorem State.fieldAt_counters (s : State) (i : Nat) {offset w n : Nat} (h : s.counterFields[i]? = some (w, n))
    (hoffset : (counterWidths.take i).sum = offset) (hn : n < 256 ^ w) : fieldAt s.counterBytes offset w = n :=
  fieldAt_of_packed s.counterBytes_eq (widths := counterWidths) rfl h hoffset hn

/-- The counters before the i-th take four bytes each. -/
theorem counterWidths_offset {i : Nat} (hi : i < 13) : (counterWidths.take i).sum = 4 * i := by
  rw [counterWidths, List.take_append_of_le_length (by simp [hi.le])]
  rw [List.take_replicate, List.sum_replicate_nat, Nat.min_eq_left hi.le, Nat.mul_comm]

/-- Settles O5: every value stands in its field of `State.statusFields` or `State.counterFields`. -/
theorem statusAndCountersReplies : Obligations.StatusAndCountersReplies := by
  unfold Obligations.StatusAndCountersReplies
  intro operation result node
  have hoperation : operation = LongOp.code := by
    funext op
    cases op <;> rfl
  have hresult : result = ResultCode.code := by
    funext code
    cases code <;> rfl
  have hnode : node = NodeState.code := by
    funext n
    cases n <;> rfl
  clear_value operation result node
  subst hoperation hresult hnode
  refine ⟨fun s h hown hentries hreason hsheet => ?_, fun s h hqueue => ?_, fun _ _ _ => rfl⟩
  · obtain ⟨hnumberFits, hrevisionFits⟩ := State.header_fits hsheet
    have hop : fieldAt s.statusBytes 1 1 = (s.port.busy.map LongOp.code).getD 0 :=
      s.fieldAt_status 1 rfl rfl s.operation_fits
    have hnumber : fieldAt s.statusBytes 5 4 = (s.header?.map (·.number)).getD 0 :=
      s.fieldAt_status 5 rfl rfl hnumberFits
    have hrevision : fieldAt s.statusBytes 9 2 = (s.header?.map (·.revision)).getD 0 :=
      s.fieldAt_status 6 rfl rfl hrevisionFits
    have hnotice : fieldAt s.statusBytes 25 1 = (flagByte s.noticeLow).toNat :=
      s.fieldAt_status 16 rfl rfl (word_lt 1 _)
    refine ⟨s.statusBytes, exec_status h, s.statusBytes_length, ?_, fun op hbusy => ?_, fun hbusy => ?_, ?_, ?_,
      ?_, fun sh hsh => ⟨?_, ?_⟩, fun hnone => ⟨?_, ?_⟩, ?_, ?_, ?_, ?_, ?_, ?_, ?_, ?_, ?_, ?_, ?_⟩
    · exact (s.fieldAt_status 0 rfl rfl (word_lt 1 _)).trans (flagByte_toNat _)
    · rw [hop, Option.mem_def.1 hbusy]
      rfl
    · rw [hop, hbusy]
      rfl
    · exact s.fieldAt_status 2 rfl rfl (ResultCode.code_lt _)
    · exact s.fieldAt_status 3 rfl rfl (by omega)
    · exact s.fieldAt_status 4 rfl rfl (NodeState.code_lt _)
    · rw [hnumber, State.header?, Option.mem_def.1 hsh]
      rfl
    · rw [hrevision, State.header?, Option.mem_def.1 hsh]
      rfl
    · rw [hnumber, State.header?, hnone]
      rfl
    · rw [hrevision, State.header?, hnone]
      rfl
    · exact s.fieldAt_status 7 rfl rfl (word_lt 4 _)
    · exact s.fieldAt_status 8 rfl rfl (by omega)
    · exact s.fieldAt_status 9 rfl rfl (by omega)
    · refine (s.fieldAt_status 10 rfl rfl (word_lt 1 _)).trans ?_
      simp [flagByte_toNat]
    · exact (s.fieldAt_status 11 rfl rfl (word_lt 1 _)).trans (flagByte_toNat _)
    · exact s.fieldAt_status 12 rfl rfl (word_lt 2 _)
    · exact s.fieldAt_status 13 rfl rfl (word_lt 1 _)
    · exact (s.fieldAt_status 14 rfl rfl (word_lt 1 _)).trans (flagByte_toNat _)
    · exact s.fieldAt_status 15 rfl rfl (s.notices.enables.isLt.trans (by decide))
    · rw [hnotice, flagByte_toNat]
      cases s.noticeLow <;> simp
    · rw [hnotice, flagByte_toNat, ← State.noticeLow_iff h]
      cases s.noticeLow <;> simp
  · intro values hvalues
    refine ⟨s.counterBytes, exec_readCounters h, s.counterBytes_length, fun i => ?_, ?_, ?_⟩
    · have hcounter : values.getD i 0 ≤ 4294967295 := by
        rw [List.getD_eq_getElem values 0 i.isLt]
        exact hvalues _ (List.getElem_mem _)
      exact s.fieldAt_counters i (s.counterFields_getElem? i.isLt) (counterWidths_offset i.isLt)
        (Nat.lt_succ_of_le hcounter)
    · exact s.fieldAt_counters 13 rfl rfl (by omega)
    · exact (s.fieldAt_counters 14 rfl rfl (word_lt 1 _)).trans (flagByte_toNat _)

end Sys2Proof.Machine
end

section
/-! PROOFS. The parcel, attest and peer records as fields of fixed widths, and the five record reads (09 section 9.4; 10
section 10.3). -/

namespace Sys2Proof.Machine

/-! ### Fields in a row, optional and signed fields -/

/-- The bytes of `j` fields from the i-th on are those fields packed. -/
theorem slice_of_packed {bytes : List Byte} {fields : List (Nat × Nat)} (hbytes : bytes = packed fields)
    {widths : List Nat} (hwidths : fields.map (·.1) = widths) (i j : Nat) :
    slice bytes (widths.take i).sum ((widths.drop i).take j).sum = packed ((fields.drop i).take j) := by
  have hsplit : bytes =
      packed (fields.take i) ++ (packed ((fields.drop i).take j) ++ packed ((fields.drop i).drop j)) := by
    rw [← packed_append, ← packed_append, List.take_append_drop, List.take_append_drop, hbytes]
  rw [hsplit, ← hwidths, ← List.map_drop, ← List.map_take, ← List.map_take, ← packed_length, ← packed_length]
  exact slice_append ..

theorem beSigned_eight (v : Int) : beSigned 8 v = beBytes 8 (BitVec.ofInt 64 v).toNat := rfl

/-- A signed value in two's complement reads back where it fits the width. -/
theorem toInt_of_eq_ofInt {w m : Nat} {v : Int} (hm : m = (BitVec.ofInt w v).toNat) (hlow : -(2 ^ w : Nat) ≤ v * 2)
    (hhigh : v * 2 < (2 ^ w : Nat)) : (BitVec.ofNat w m).toInt = v := by
  rw [hm, BitVec.ofNat_toNat, BitVec.setWidth_eq, BitVec.toInt_ofInt]
  exact Int.bmod_eq_of_le_mul_two hlow hhigh

/-! ### Codes and masks (section 10.4) -/

theorem Verdict.code_lt (v : Verdict) : v.code < 256 := by cases v <;> decide

theorem ComputeStatus.code_lt (c : ComputeStatus) : c.code < 256 := by cases c <;> decide

theorem EdgeSelect.code_lt (e : EdgeSelect) : e.code < 256 := by cases e <;> decide

theorem PeerState.code_lt (p : PeerState) : p.code < 256 := by cases p <;> decide

/-- The bits of the parcel qualifiers' mask. -/
theorem ParcelQuals.mask_bits (q : ParcelQuals) : q.mask.testBit 8 = q.isPartial ∧ q.mask.testBit 9 = q.stale
    ∧ q.mask.testBit 10 = q.limited ∧ q.mask.testBit 11 = q.closed ∧ q.mask.testBit 12 = q.definitive
    ∧ q.mask % 256 = 0 ∧ q.mask < 8192 := by
  rcases q with ⟨_ | _, _ | _, _ | _, _ | _, _ | _⟩ <;> decide

/-! ### The parcel record (R49, R171) -/

/-- The fields of a parcel record with its edge select. -/
def ParcelRecord.fields (r : ParcelRecord) (edge : EdgeSelect) : List (Nat × Nat) :=
  [(1, r.parcel), (8, (BitVec.ofInt 64 r.result.shipTotal).toNat), (8, (BitVec.ofInt 64 r.result.custodyTotal).toNat),
    (8, (BitVec.ofInt 64 r.result.checkTotal).toNat), (8, (BitVec.ofInt 64 r.result.shipMass).toNat),
    (8, (BitVec.ofInt 64 r.result.custodyMass).toNat), (8, (BitVec.ofInt 64 r.result.checkMass).toNat),
    (1, r.result.shipCount), (1, r.result.custodyCount), (1, r.result.checkCount), (1, r.result.lackingCount),
    (8, (BitVec.ofInt 64 r.result.shipAdjusted).toNat), (8, (BitVec.ofInt 64 r.result.difference).toNat),
    (1, (flagByte r.result.ratio.isSome).toNat),
    (4, (r.result.ratio.map (fun v => (BitVec.ofInt 32 v).toNat)).getD 0), (1, r.result.verdict.code),
    (2, r.result.quals.mask), (1, (flagByte r.settled).toNat), (1, r.status.code), (4, r.count.toNat),
    (1, r.lastNotified.code), (1, edge.code)]

def parcelWidths : List Nat := [1, 8, 8, 8, 8, 8, 8, 1, 1, 1, 1, 8, 8, 1, 4, 1, 2, 1, 1, 4, 1, 1]

theorem ParcelRecord.bytes_eq (r : ParcelRecord) (edge : EdgeSelect) : r.bytes edge = packed (r.fields edge) := by
  have hratio : optBytes 4 (beSigned 4) r.result.ratio = [flagByte r.result.ratio.isSome]
      ++ beBytes 4 ((r.result.ratio.map (fun v => (BitVec.ofInt 32 v).toNat)).getD 0) := by
    cases r.result.ratio <;> rfl
  unfold ParcelRecord.bytes ParcelRecord.fields
  simp only [hratio, packed, List.flatMap_cons, List.flatMap_nil, beBytes_toNat, beSigned_eight, List.append_assoc,
    List.append_nil]

theorem ParcelRecord.bytes_length (r : ParcelRecord) (edge : EdgeSelect) : (r.bytes edge).length = 85 :=
  length_of_packed (r.bytes_eq edge) (widths := parcelWidths) rfl

theorem ParcelRecord.fieldAt_bytes (r : ParcelRecord) (edge : EdgeSelect) (i : Nat) {offset w n : Nat}
    (h : (r.fields edge)[i]? = some (w, n)) (hoffset : (parcelWidths.take i).sum = offset) (hn : n < 256 ^ w) :
    fieldAt (r.bytes edge) offset w = n :=
  fieldAt_of_packed (r.bytes_eq edge) (widths := parcelWidths) rfl h hoffset hn

/-- A total of eight bytes reads back where it fits them. -/
theorem ParcelRecord.signedAt_bytes (r : ParcelRecord) (edge : EdgeSelect) (i : Nat) {offset : Nat} {v : Int}
    (h : (r.fields edge)[i]? = some (8, (BitVec.ofInt 64 v).toNat)) (hoffset : (parcelWidths.take i).sum = offset)
    (hlow : -9223372036854775808 ≤ v) (hhigh : v ≤ 9223372036854775807) :
    (BitVec.ofNat 64 (fieldAt (r.bytes edge) offset 8)).toInt = v :=
  toInt_of_eq_ofInt (r.fieldAt_bytes edge i h hoffset (word_lt 8 _)) (by omega) (by omega)

/-- The ratio's field where the ratio is absent: presence 0 and zeros. -/
theorem ParcelRecord.slice_ratio_none {r : ParcelRecord} (h : r.result.ratio = none) (edge : EdgeSelect) :
    slice (r.bytes edge) 69 5 = [0, 0, 0, 0, 0] := by
  have hslice : slice (r.bytes edge) 69 5 = packed [(1, (flagByte r.result.ratio.isSome).toNat), _] :=
    slice_of_packed (r.bytes_eq edge) (widths := parcelWidths) rfl 13 2
  rw [hslice, h]
  rfl

theorem ParcelRecord.ratio_some {r : ParcelRecord} {v : Int} (h : r.result.ratio = some v) (edge : EdgeSelect) :
    fieldAt (r.bytes edge) 69 1 = 1
      ∧ (-99999 ≤ v ∧ v ≤ 99999 → (BitVec.ofNat 32 (fieldAt (r.bytes edge) 70 4)).toInt = v) := by
  have hpresent : fieldAt (r.bytes edge) 69 1 = (flagByte r.result.ratio.isSome).toNat :=
    r.fieldAt_bytes edge 13 rfl rfl (word_lt 1 _)
  have hvalue : (r.fields edge)[14]? = some (4, (BitVec.ofInt 32 v).toNat) := by
    rw [ParcelRecord.fields, h]
    rfl
  refine ⟨by rw [hpresent, h]; rfl, fun ⟨hlow, hhigh⟩ => ?_⟩
  exact toInt_of_eq_ofInt (r.fieldAt_bytes edge 14 hvalue rfl (word_lt 4 _)) (by omega) (by omega)

theorem ParcelRecord.quals_field (r : ParcelRecord) (edge : EdgeSelect) :
    fieldAt (r.bytes edge) 75 2 = r.result.quals.mask := by
  obtain ⟨-, -, -, -, -, -, hmask⟩ := r.result.quals.mask_bits
  exact r.fieldAt_bytes edge 16 rfl rfl (by omega)

/-! ### The attest record (R74, R171) -/

/-- The fields of an attest record. -/
def AttestRecord.fields (r : AttestRecord) : List (Nat × Nat) :=
  [(1, r.parcel), (1, r.epoch.code), (1, (flagByte r.summary.isSome).toNat), (2, (r.summary.map (·.count)).getD 0),
    (6, (r.summary.map (·.sum)).getD 0), (2, r.matching.toNat), (2, r.diverging.toNat),
    (1, (flagByte r.changedSince).toNat)]

def attestWidths : List Nat := [1, 1, 1, 2, 6, 2, 2, 1]

theorem AttestRecord.bytes_eq (r : AttestRecord) : r.bytes = packed r.fields := by
  have hsummary : optBytes 8 (fun (sum : Summary) => beBytes 2 sum.count ++ beBytes 6 sum.sum) r.summary =
      [flagByte r.summary.isSome] ++ (beBytes 2 ((r.summary.map (·.count)).getD 0)
        ++ beBytes 6 ((r.summary.map (·.sum)).getD 0)) := by
    cases r.summary <;> rfl
  rw [AttestRecord.bytes, hsummary]
  simp only [AttestRecord.fields, packed, List.flatMap_cons, List.flatMap_nil, beBytes_toNat, List.append_assoc,
    List.append_nil]

theorem AttestRecord.bytes_length (r : AttestRecord) : r.bytes.length = 16 :=
  length_of_packed r.bytes_eq (widths := attestWidths) rfl

theorem AttestRecord.fieldAt_bytes (r : AttestRecord) (i : Nat) {offset w n : Nat} (h : r.fields[i]? = some (w, n))
    (hoffset : (attestWidths.take i).sum = offset) (hn : n < 256 ^ w) : fieldAt r.bytes offset w = n :=
  fieldAt_of_packed r.bytes_eq (widths := attestWidths) rfl h hoffset hn

/-- The summary's fields where it is absent: presence 0 and zeros. -/
theorem AttestRecord.slice_summary_none {r : AttestRecord} (h : r.summary = none) :
    slice r.bytes 2 9 = List.replicate 9 0 := by
  have hslice : slice r.bytes 2 9 = packed [(1, (flagByte r.summary.isSome).toNat),
      (2, (r.summary.map (·.count)).getD 0), (6, (r.summary.map (·.sum)).getD 0)] :=
    slice_of_packed r.bytes_eq (widths := attestWidths) rfl 2 3
  rw [hslice, h]
  rfl

theorem AttestRecord.summary_some {r : AttestRecord} {v : Summary} (h : r.summary = some v) :
    fieldAt r.bytes 2 1 = 1 ∧ (v.count ≤ 65535 → fieldAt r.bytes 3 2 = v.count)
      ∧ (v.sum < 2 ^ 48 → fieldAt r.bytes 5 6 = v.sum) := by
  have hfields : r.fields = (1, r.parcel) :: (1, r.epoch.code) :: (1, 1) :: (2, v.count) :: (6, v.sum)
      :: r.fields.drop 5 := by
    rw [AttestRecord.fields, h]
    rfl
  exact ⟨r.fieldAt_bytes 2 (by rw [hfields]; rfl) rfl (by decide),
    fun hcount => r.fieldAt_bytes 3 (by rw [hfields]; rfl) rfl (by omega),
    fun hsum => r.fieldAt_bytes 4 (by rw [hfields]; rfl) rfl hsum⟩

/-! ### The peer record (R115, R171) -/

/-- The fields of a slot's peer record. -/
def PeerRecord.fields (slot : Nat) (r : PeerRecord) : List (Nat × Nat) :=
  [(1, slot), (1, r.state.code), (1, (flagByte r.heard.isSome).toNat), (1, (r.heard.map (·.role.code)).getD 0),
    (4, (r.heard.map (·.number)).getD 0), (2, (r.heard.map (·.revision)).getD 0),
    (1, (flagByte r.generation.isSome).toNat), (1, (r.generation.map BitVec.toNat).getD 0),
    (1, (flagByte r.baseline.isSome).toNat), (2, (r.baseline.map BitVec.toNat).getD 0), (1, r.declaredCount),
    (1, r.declaredMask.toNat), (1, (flagByte r.finalised).toNat), (4, r.accepted), (4, r.missing),
    (2, timerSeconds r.timer), (1, (flagByte r.mismatch).toNat)]

def peerWidths : List Nat := [1, 1, 1, 1, 4, 2, 1, 1, 1, 2, 1, 1, 1, 4, 4, 2, 1]

theorem PeerRecord.bytes_eq (slot : Nat) (r : PeerRecord) : r.bytes slot = packed (r.fields slot) := by
  have hheard : optBytes 7 (fun (h : HeardValues) => beBytes 1 h.role.code ++ beBytes 4 h.number ++ beBytes 2 h.revision)
      r.heard = [flagByte r.heard.isSome] ++ (beBytes 1 ((r.heard.map (·.role.code)).getD 0)
        ++ beBytes 4 ((r.heard.map (·.number)).getD 0) ++ beBytes 2 ((r.heard.map (·.revision)).getD 0)) := by
    cases r.heard <;> rfl
  have hgeneration : optBytes 1 (fun g => [g]) r.generation =
      [flagByte r.generation.isSome] ++ beBytes 1 ((r.generation.map BitVec.toNat).getD 0) := by
    cases r.generation with
    | none => rfl
    | some g => exact congrArg ([1] ++ ·) (beBytes_toNat g).symm
  have hbaseline : optBytes 2 (fun (b : BitVec 16) => beBytes 2 b.toNat) r.baseline =
      [flagByte r.baseline.isSome] ++ beBytes 2 ((r.baseline.map BitVec.toNat).getD 0) := by
    cases r.baseline <;> rfl
  rw [PeerRecord.bytes, hheard, hgeneration, hbaseline]
  simp only [PeerRecord.fields, packed, List.flatMap_cons, List.flatMap_nil, beBytes_toNat, List.append_assoc,
    List.append_nil]

theorem PeerRecord.bytes_length (slot : Nat) (r : PeerRecord) : (r.bytes slot).length = 29 :=
  length_of_packed (r.bytes_eq slot) (widths := peerWidths) rfl

theorem PeerRecord.fieldAt_bytes (r : PeerRecord) (slot : Nat) (i : Nat) {offset w n : Nat}
    (h : (r.fields slot)[i]? = some (w, n)) (hoffset : (peerWidths.take i).sum = offset) (hn : n < 256 ^ w) :
    fieldAt (r.bytes slot) offset w = n :=
  fieldAt_of_packed (r.bytes_eq slot) (widths := peerWidths) rfl h hoffset hn

theorem PeerRecord.slice_heard (r : PeerRecord) (slot : Nat) : slice (r.bytes slot) 2 8 =
    packed [(1, (flagByte r.heard.isSome).toNat), (1, (r.heard.map (·.role.code)).getD 0),
      (4, (r.heard.map (·.number)).getD 0), (2, (r.heard.map (·.revision)).getD 0)] :=
  slice_of_packed (r.bytes_eq slot) (widths := peerWidths) rfl 2 4

theorem PeerRecord.slice_generation (r : PeerRecord) (slot : Nat) : slice (r.bytes slot) 10 2 =
    [flagByte r.generation.isSome] ++ beBytes 1 ((r.generation.map BitVec.toNat).getD 0) := by
  rw [← beBytes_toNat (flagByte _), ← List.append_nil (beBytes 1 ((r.generation.map BitVec.toNat).getD 0))]
  exact slice_of_packed (r.bytes_eq slot) (widths := peerWidths) rfl 6 2

theorem PeerRecord.slice_baseline (r : PeerRecord) (slot : Nat) : slice (r.bytes slot) 12 3 =
    packed [(1, (flagByte r.baseline.isSome).toNat), (2, (r.baseline.map BitVec.toNat).getD 0)] :=
  slice_of_packed (r.bytes_eq slot) (widths := peerWidths) rfl 8 2

/-- A running timer reads as the seconds that its bit times begin (R171). -/
theorem timerSeconds_some {bits seconds : Nat} (hle : bits ≤ seconds * 250000)
    (hlt : seconds * 250000 < bits + 250000) : timerSeconds (some bits) = seconds := by
  simp only [timerSeconds, Config.bitsPerSecond]
  omega

theorem PeerRecord.timer_some {r : PeerRecord} {slot : Nat} {bits seconds : Nat} (h : r.timer = some bits)
    (hseconds : seconds ≤ 300) (hle : bits ≤ seconds * 250000) (hlt : seconds * 250000 < bits + 250000) :
    fieldAt (r.bytes slot) 26 2 = seconds := by
  have hfield : timerSeconds r.timer = seconds := h ▸ timerSeconds_some hle hlt
  exact (r.fieldAt_bytes slot 15 rfl rfl (by omega)).trans hfield

theorem PeerRecord.heard_some {r : PeerRecord} {slot : Nat} {h : HeardValues} (hheard : r.heard = some h) :
    fieldAt (r.bytes slot) 2 1 = 1 ∧ fieldAt (r.bytes slot) 3 1 = h.role.code
      ∧ (h.number ≤ 4294967295 → fieldAt (r.bytes slot) 4 4 = h.number)
      ∧ (h.revision ≤ 65535 → fieldAt (r.bytes slot) 8 2 = h.revision) := by
  have hfields : r.fields slot = (1, slot) :: (1, r.state.code) :: (1, 1) :: (1, h.role.code) :: (4, h.number)
      :: (2, h.revision) :: (r.fields slot).drop 6 := by
    rw [PeerRecord.fields, hheard]
    rfl
  exact ⟨r.fieldAt_bytes slot 2 (by rw [hfields]; rfl) rfl (by decide),
    r.fieldAt_bytes slot 3 (by rw [hfields]; rfl) rfl h.role.code_lt,
    fun hnumber => r.fieldAt_bytes slot 4 (by rw [hfields]; rfl) rfl (by omega),
    fun hrevision => r.fieldAt_bytes slot 5 (by rw [hfields]; rfl) rfl (by omega)⟩

theorem PeerRecord.baseline_some {r : PeerRecord} {slot : Nat} {base : BitVec 16} (h : r.baseline = some base) :
    fieldAt (r.bytes slot) 12 1 = 1 ∧ fieldAt (r.bytes slot) 13 2 = base.toNat := by
  have hfields : (r.fields slot).drop 8 = (1, 1) :: (2, base.toNat) :: (r.fields slot).drop 10 := by
    rw [PeerRecord.fields, h]
    rfl
  exact ⟨r.fieldAt_bytes slot 8 (congrArg (·[0]?) hfields) rfl (by decide),
    r.fieldAt_bytes slot 9 (congrArg (·[1]?) hfields) rfl (word_lt 2 _)⟩

/-! ### The reads (R44, R162) -/

theorem not_slotInRange (slot : Nat) : (!slotInRange slot) = decide (15 < slot) := by
  simp only [slotInRange, ← decide_not, Nat.not_le]

theorem not_pointInRange (k : Nat) : (!pointInRange k) = decide (23 < k) := by
  simp only [pointInRange, ← decide_not, Nat.not_le]

theorem not_parcelInRange (p : Nat) : (!parcelInRange p) = decide (p < 1 ∨ 8 < p) := by
  have hrange := parcelInRange_iff p
  rw [Bool.eq_iff_iff, Bool.not_eq_true', ← Bool.not_eq_true, hrange, decide_eq_true_eq]
  omega

theorem State.newSelection_readPoint (k : Nat) (s : State) :
    let found := s.table.own.find? (fun p => decide (p.number = k))
    s.newSelection.readPoint k = s.checked
      [(!s.running, .state), (decide (23 < k), .range), (found.isNone, .noPoint)]
      (s.answered .done ((found.map OwnPoint.bytes).getD [])) := by
  intro found
  have hfound : s.newSelection.table.point? k = found := rfl
  unfold State.readPoint
  rw [State.newSelection_running, not_pointInRange, hfound]
  cases s.running
  · rfl
  · cases decide (23 < k)
    · cases found <;> rfl
    · rfl

/-- An entry behind its three-byte key (R171). -/
theorem keyedEntry_eq (e : PeerEntry) : keyedEntry e = [2, BitVec.ofNat 8 e.slot, BitVec.ofNat 8 e.point] ++ e.bytes := by
  rw [keyedEntry, beBytes_one, beBytes_one]
  rfl

/-- An own point record behind its three-byte key (R171). -/
theorem keyedOwn_eq (slot : Nat) (p : OwnPoint) :
    keyedOwn slot p = [1, BitVec.ofNat 8 slot, BitVec.ofNat 8 p.number] ++ p.bytes := by
  rw [keyedOwn, beBytes_one, beBytes_one]
  rfl

/-- The records of the table behind their keys, by index (R25). -/
theorem State.recordAt_eq (s : State) (index : Nat) :
    s.recordAt index =
      (s.table.own.map (fun p => [1, BitVec.ofNat 8 s.ownSlot, BitVec.ofNat 8 p.number] ++ p.bytes)
        ++ s.table.entries.map (fun e => [2, BitVec.ofNat 8 e.slot, BitVec.ofNat 8 e.point] ++ e.bytes))[index]? := by
  rw [State.recordAt, ← List.getElem?_map, FigureTable.records, List.map_append, List.map_map, List.map_map]
  simp only [Function.comp_def, TableRecord.keyed, keyedOwn_eq, keyedEntry_eq]

theorem State.newSelection_readEntry_key (slot point : Byte) (s : State) :
    let found := s.table.entries.find? (fun e => decide (e.slot = slot.toNat ∧ e.point = point.toNat))
    s.newSelection.readEntry 0 slot.toNat point.toNat = s.checked
      [(!s.running, .state), (decide (15 < slot.toNat ∨ 23 < point.toNat), .range), (found.isNone, .notFound)]
      (s.answered .done ((found.map (fun e => [2, slot, point] ++ e.bytes)).getD [])) := by
  intro found
  have hkeyed : (s.newSelection.table.entry? slot.toNat point.toNat).map keyedEntry =
      found.map (fun e => [2, slot, point] ++ e.bytes) := by
    refine Option.map_congr fun e he => ?_
    have hkey := List.find?_some he
    simp only [isEntry, decide_eq_true_eq] at hkey
    obtain ⟨hslot, hpoint⟩ := hkey
    rw [keyedEntry_eq, hslot, hpoint, BitVec.ofNat_toNat, BitVec.ofNat_toNat, BitVec.setWidth_eq, BitVec.setWidth_eq]
  have hrange : (slotInRange slot.toNat = true ∧ pointInRange point.toNat = true) ↔
      ¬ (15 < slot.toNat ∨ 23 < point.toNat) := by
    simp [slotInRange, pointInRange]
  unfold State.readEntry
  rw [State.newSelection_running]
  dsimp only
  rw [hkeyed, if_congr hrange rfl rfl, ite_not]
  cases s.running
  · rfl
  · by_cases hout : 15 < slot.toNat ∨ 23 < point.toNat
    · rw [if_pos hout, decide_eq_true hout]
      rfl
    · rw [if_neg hout, decide_eq_false hout]
      cases found <;> rfl

theorem State.newSelection_readEntry_index (index second : Nat) (s : State) :
    s.newSelection.readEntry 1 index second = s.checked
      [(!s.running, .state), ((s.recordAt index).isNone, .notFound)] (s.answered .done ((s.recordAt index).getD [])) := by
  have hfound : s.newSelection.recordAt index = s.recordAt index := rfl
  unfold State.readEntry
  rw [State.newSelection_running]
  dsimp only
  rw [hfound]
  cases s.running
  · rfl
  · cases s.recordAt index <;> rfl

theorem State.newSelection_readEntry_other {form : Nat} (hform : 1 < form) (first second : Nat) (s : State) :
    s.newSelection.readEntry form first second = s.answered (if s.running then .range else .state) [] := by
  obtain ⟨n, rfl⟩ := Nat.exists_eq_add_of_le' hform
  unfold State.readEntry
  rw [State.newSelection_running]
  cases s.running <;> rfl

theorem State.newSelection_readParcel (p : Nat) (s : State) :
    let found := s.balance.records.find? (fun r => decide (r.parcel = p))
    s.newSelection.readParcel p = s.checked
      [(!s.running, .state), (decide (p < 1 ∨ 8 < p), .range), (found.isNone, .noParcel)]
      (s.answered .done ((found.map (fun r => r.bytes (s.notices.edge p))).getD [])) := by
  intro found
  have hfound : s.newSelection.balance.records.find? (fun r => decide (r.parcel = p)) = found := rfl
  unfold State.readParcel
  rw [State.newSelection_running, not_parcelInRange, hfound]
  cases s.running
  · rfl
  · cases decide (p < 1 ∨ 8 < p)
    · cases found <;> rfl
    · rfl

/-- OPENING and CLOSING are the epochs that can be attested (R76). -/
theorem Epoch.ofAttestCode_byte (b : Byte) : Epoch.ofAttestCode b.toNat =
    if b ≠ 1 ∧ b ≠ 3 then none else some (if b = 1 then .opening else .closing) := by
  have hone : b = 1 ↔ b.toNat = 1 := BitVec.toNat_inj.symm
  have hthree : b = 3 ↔ b.toNat = 3 := BitVec.toNat_inj.symm
  simp only [ne_eq, hone, hthree]
  rcases b.toNat with _ | _ | _ | _ | n <;> simp [Epoch.ofAttestCode]

theorem State.newSelection_readAttest (parcel epoch : Byte) (s : State) :
    let e : Epoch := if epoch = 1 then .opening else .closing
    let found := s.attest.find? (fun r => decide (r.parcel = parcel.toNat ∧ r.epoch = e))
    s.newSelection.readAttest parcel.toNat epoch.toNat = s.checked
      [(!s.running, .state),
        (decide (parcel.toNat < 1 ∨ 8 < parcel.toNat ∨ (epoch ≠ 1 ∧ epoch ≠ 3)), .range),
        (found.isNone, .noParcel)]
      (s.answered .done ((found.map AttestRecord.bytes).getD [])) := by
  intro e found
  have hfound : s.newSelection.attest.find? (fun r => decide (r.parcel = parcel.toNat ∧ r.epoch = e)) = found := rfl
  unfold State.readAttest
  rw [State.newSelection_running, Epoch.ofAttestCode_byte]
  cases s.running
  · rfl
  · by_cases hother : epoch ≠ 1 ∧ epoch ≠ 3
    · rw [if_pos hother, decide_eq_true (.inr (.inr hother))]
      rfl
    · have hrange : decide (parcel.toNat < 1 ∨ 8 < parcel.toNat ∨ (epoch ≠ 1 ∧ epoch ≠ 3)) =
          !parcelInRange parcel.toNat := by
        rw [not_parcelInRange]
        simp only [hother, or_false]
      rw [if_neg hother, hrange]
      cases parcelInRange parcel.toNat
      · rfl
      · dsimp only
        rw [hfound]
        cases found <;> rfl

theorem State.newSelection_readPeer (slot : Nat) (s : State) :
    s.newSelection.readPeer slot = s.checked [(decide (15 < slot), .range)]
      (s.answered .done ((s.peers.getD slot PeerRecord.reset).bytes slot)) := by
  rw [← not_slotInRange]
  unfold State.readPeer
  cases slotInRange slot <;> rfl

/-- A request served in every port state does what it does in a new selection. -/
theorem exec_served {s : State} (h : s.takes) {body : State → State} {t : State} (hbody : body s.newSelection = t) :
    (.next (s.serveRequest body) : Host.Outcome State Fault Refusal) = .next t := by
  rw [State.serveRequest_taken h, hbody]

/-- Settles O6: the reads by their refusals in order, and each record by its fields. -/
theorem readsReturnTheRecordsHeld : Obligations.ReadsReturnTheRecordsHeld := by
  refine ⟨fun point s h => exec_served h (s.newSelection_readPoint _),
    fun slot point s h => exec_served h (s.newSelection_readEntry_key slot point),
    fun index ignored s h => ?_,
    fun form first second s h hform => exec_served h (s.newSelection_readEntry_other hform _ _),
    fun parcel s h => exec_served h (s.newSelection_readParcel _),
    fun parcel epoch s h => exec_served h (s.newSelection_readAttest parcel epoch),
    fun slot s h => exec_served h (s.newSelection_readPeer _), fun r edge => ?_, fun r => ?_, fun slot r => ?_⟩
  · intro own peer found
    have hfound : s.recordAt index.toNat = found := s.recordAt_eq index.toNat
    rw [← hfound]
    exact exec_served h (s.newSelection_readEntry_index index.toNat ignored.toNat)
  · have hbits := r.result.quals.mask_bits
    rw [← r.quals_field edge] at hbits
    refine ⟨r.bytes_length edge, fun h => r.slice_ratio_none h edge, fun v hv => r.ratio_some hv edge, ?_⟩
    obtain ⟨hpartial, hstale, hlimited, hclosed, hdefinitive, hlow, hhigh⟩ := hbits
    refine ⟨fun h => r.fieldAt_bytes edge 0 rfl rfl (by omega), r.signedAt_bytes edge 1 rfl rfl,
      r.signedAt_bytes edge 2 rfl rfl, r.signedAt_bytes edge 3 rfl rfl, r.signedAt_bytes edge 4 rfl rfl,
      r.signedAt_bytes edge 5 rfl rfl, r.signedAt_bytes edge 6 rfl rfl,
      fun h => r.fieldAt_bytes edge 7 rfl rfl (by omega), fun h => r.fieldAt_bytes edge 8 rfl rfl (by omega),
      fun h => r.fieldAt_bytes edge 9 rfl rfl (by omega), fun h => r.fieldAt_bytes edge 10 rfl rfl (by omega),
      r.signedAt_bytes edge 11 rfl rfl, r.signedAt_bytes edge 12 rfl rfl, ?_, hpartial, hstale, hlimited, hclosed,
      hdefinitive, hlow, hhigh, ?_, ?_, ?_, ?_, ?_⟩
    · exact (r.fieldAt_bytes edge 15 rfl rfl (Verdict.code_lt _)).trans (by cases r.result.verdict <;> rfl)
    · exact (r.fieldAt_bytes edge 17 rfl rfl (word_lt 1 _)).trans (flagByte_toNat _)
    · exact (r.fieldAt_bytes edge 18 rfl rfl (ComputeStatus.code_lt _)).trans (by cases r.status <;> rfl)
    · exact r.fieldAt_bytes edge 19 rfl rfl (word_lt 4 _)
    · exact (r.fieldAt_bytes edge 20 rfl rfl (Verdict.code_lt _)).trans (by cases r.lastNotified <;> rfl)
    · exact (r.fieldAt_bytes edge 21 rfl rfl (EdgeSelect.code_lt _)).trans (by cases edge <;> rfl)
  · refine ⟨r.bytes_length, fun h => r.fieldAt_bytes 0 rfl rfl (by omega), ?_, ?_, r.slice_summary_none,
      fun v hv => r.summary_some hv, r.fieldAt_bytes 5 rfl rfl (word_lt 2 _), r.fieldAt_bytes 6 rfl rfl (word_lt 2 _)⟩
    · exact (r.fieldAt_bytes 1 rfl rfl (Epoch.code_lt _)).trans (by cases r.epoch <;> rfl)
    · exact (r.fieldAt_bytes 7 rfl rfl (word_lt 1 _)).trans (flagByte_toNat _)
  · refine ⟨r.bytes_length slot, fun h => ?_, fun h => ?_, fun h => ?_, fun g h => ?_, fun h => ?_,
      fun n hn h => r.timer_some h hn (by omega) (by omega), fun bits seconds h => r.timer_some h, ?_⟩
    · rw [r.slice_heard, h]
      rfl
    · rw [r.slice_generation, h]
      rfl
    · rw [r.slice_baseline, h]
      rfl
    · rw [r.slice_generation, Option.mem_def.1 h]
      exact congrArg ([1] ++ ·) (beBytes_toNat g)
    · have hseconds : timerSeconds r.timer = 0xFFFF := h ▸ rfl
      exact (r.fieldAt_bytes slot 15 rfl rfl (by omega)).trans hseconds
    refine ⟨fun h => r.fieldAt_bytes slot 0 rfl rfl (by omega), ?_, fun h hheard => ?_,
      fun base hbase => r.baseline_some hbase, fun h => r.fieldAt_bytes slot 10 rfl rfl (by omega),
      r.fieldAt_bytes slot 11 rfl rfl (word_lt 1 _), ?_, fun h => r.fieldAt_bytes slot 13 rfl rfl (by omega),
      fun h => r.fieldAt_bytes slot 14 rfl rfl (by omega), ?_⟩
    · exact (r.fieldAt_bytes slot 1 rfl rfl (PeerState.code_lt _)).trans (by cases r.state <;> rfl)
    · obtain ⟨hpresent, hrole, hvalues⟩ := r.heard_some (slot := slot) hheard
      exact ⟨hpresent, hrole.trans (by cases h.role <;> rfl), hvalues⟩
    · exact (r.fieldAt_bytes slot 12 rfl rfl (word_lt 1 _)).trans (flagByte_toNat _)
    · exact (r.fieldAt_bytes slot 16 rfl rfl (word_lt 1 _)).trans (flagByte_toNat _)

end Sys2Proof.Machine
end

section
/-! PROOFS. The table walk: the place a walk's key has in the table, and the record taken next (09 section 9.6). -/

namespace Sys2Proof.Machine

/-! ### The first of a list in order -/

/-- In a list that stands in ascending place, the element found is the one of the lowest place. -/
theorem find?_eq_some_iff_lowest {α : Type} {place : α → Nat} {l : List α}
    (h : l.Pairwise (fun x y => place x < place y)) (p : α → Bool) (r : α) :
    l.find? p = some r ↔ r ∈ l ∧ p r = true ∧ ∀ q ∈ l, p q = true → place r ≤ place q := by
  induction l with
  | nil => simp
  | cons x xs ih =>
    obtain ⟨hx, hxs⟩ := List.pairwise_cons.1 h
    by_cases hp : p x = true
    · rw [List.find?_cons_of_pos hp, Option.some.injEq]
      constructor
      · rintro rfl
        exact ⟨List.mem_cons_self .., hp, List.forall_mem_cons.2 ⟨fun _ => le_rfl, fun q hq _ => (hx q hq).le⟩⟩
      · rintro ⟨hr, -, hlowest⟩
        rcases List.mem_cons.1 hr with rfl | hr
        · rfl
        · exact absurd (hlowest x (List.mem_cons_self ..) hp) (Nat.not_le.2 (hx r hr))
    · rw [List.find?_cons_of_neg hp, ih hxs]
      constructor
      · rintro ⟨hr, hpr, hlowest⟩
        exact ⟨List.mem_cons_of_mem _ hr, hpr, List.forall_mem_cons.2 ⟨fun hpx => absurd hpx hp, hlowest⟩⟩
      · rintro ⟨hr, hpr, hlowest⟩
        rcases List.mem_cons.1 hr with rfl | hr
        · exact absurd hpr hp
        · exact ⟨hr, hpr, fun q hq => hlowest q (List.mem_cons_of_mem _ hq)⟩

/-! ### Table order (R24, R25) -/

/-- The table's records stand in their order, with numbers, slots and points in range. -/
structure FigureTable.Ordered (t : FigureTable) : Prop where
  own : Ascending (t.own.map (·.number))
  ownRange : ∀ p ∈ t.own, p.number < 24
  entries : t.entries.Pairwise (fun d e => keyBefore d.slot d.point e.slot e.point = true)
  entriesRange : ∀ e ∈ t.entries, e.slot < 16 ∧ e.point < 24

/-- The places of the records ascend: own points by number, then entries by slot and point. -/
theorem FigureTable.Ordered.places {t : FigureTable} (h : t.Ordered) :
    t.records.Pairwise (fun x y => x.place < y.place) := by
  refine List.pairwise_append.2 ⟨List.pairwise_map.2 (List.pairwise_map.1 h.own), List.pairwise_map.2 ?_, ?_⟩
  · refine h.entries.imp_of_mem fun {d e} hd he hbefore => ?_
    have hd := h.entriesRange d hd
    have he := h.entriesRange e he
    rw [keyBefore_iff] at hbefore
    simp only [TableRecord.place]
    omega
  · intro x hx y hy
    obtain ⟨p, hp, rfl⟩ := List.mem_map.1 hx
    obtain ⟨e, he, rfl⟩ := List.mem_map.1 hy
    have hp := h.ownRange p hp
    simp only [TableRecord.place]
    omega

/-- The place of a walk's key; before its first record it has none. -/
def WalkPos.place : WalkPos → Nat
  | .start _ => 0
  | .afterOwn k => k
  | .afterEntry slot point => 24 + 24 * slot + point

/-- A record lies after a walk's key where its place follows the key's. -/
theorem FigureTable.Ordered.after_iff {t : FigureTable} (h : t.Ordered) {pos : WalkPos} (hpos : pos.inRange)
    (hstarted : ∀ index, pos ≠ .start index) {r : TableRecord} (hr : r ∈ t.records) :
    r.after pos = true ↔ pos.place < r.place := by
  rcases List.mem_append.1 hr with hr | hr
  · obtain ⟨p, hp, rfl⟩ := List.mem_map.1 hr
    have hp := h.ownRange p hp
    cases pos with
    | start index => exact absurd rfl (hstarted index)
    | afterOwn k => simp [TableRecord.after, WalkPos.place, TableRecord.place]
    | afterEntry slot point =>
      simp only [TableRecord.after, WalkPos.place, TableRecord.place, Bool.false_eq_true, false_iff]
      omega
  · obtain ⟨e, he, rfl⟩ := List.mem_map.1 hr
    have he := h.entriesRange e he
    cases pos with
    | start index => exact absurd rfl (hstarted index)
    | afterOwn k =>
      simp only [TableRecord.after, WalkPos.place, TableRecord.place, WalkPos.inRange, true_iff] at *
      omega
    | afterEntry slot point =>
      simp only [TableRecord.after, keyBefore_iff, WalkPos.place, TableRecord.place, WalkPos.inRange] at *
      omega

/-- What follows a walk's key is the record of the lowest place behind the key's. -/
theorem FigureTable.Ordered.find?_after_iff {t : FigureTable} (h : t.Ordered) {pos : WalkPos} (hpos : pos.inRange)
    (hstarted : ∀ index, pos ≠ .start index) (r : TableRecord) :
    t.records.find? (TableRecord.after pos) = some r ↔ r ∈ t.records ∧ pos.place < r.place
      ∧ ∀ q ∈ t.records, pos.place < q.place → r.place ≤ q.place := by
  have hafter {q : TableRecord} (hq : q ∈ t.records) := h.after_iff hpos hstarted hq
  refine (find?_eq_some_iff_lowest h.places _ r).trans (and_congr_right fun hr => ?_)
  exact and_congr (hafter hr) (forall₂_congr fun q hq => imp_congr_left (hafter hq))

/-- The record a walk takes next is the one of R165: at the start index, or the first after the key. -/
theorem FigureTable.Ordered.nextRecord_iff {t : FigureTable} (h : t.Ordered) {pos : WalkPos} (hpos : pos.inRange)
    (r : TableRecord) : t.nextRecord pos = some r ↔ r ∈ t.records ∧ r.isNext t.records pos := by
  cases pos with
  | start index => exact ⟨fun hget => ⟨List.mem_of_getElem? hget, hget⟩, And.right⟩
  | afterOwn k => exact h.find?_after_iff hpos (fun _ => nofun) r
  | afterEntry slot point => exact h.find?_after_iff hpos (fun _ => nofun) r

/-! ### WALK (R165, log 17) -/

theorem State.newSelection_walk (index : Nat) (s : State) :
    s.newSelection.walk index = s.checked [(!s.running, .state)]
      { s with port := { s.port with walk := some (.start index),
                                     reply := 0 :: beBytes 4 s.table.changeCount.toNat } } := by
  unfold State.walk
  rw [State.newSelection_running]
  cases s.running <;> rfl

theorem exec_walkRecordTaken (s : State) : exec .walkRecordTaken s = .next s.walkNext := rfl

theorem State.walkNext_of_none {s : State} (h : s.port.walk = none) : s.walkNext = s := by
  unfold State.walkNext
  rw [h]

theorem State.walkNext_of_record {s : State} {pos : WalkPos} {r : TableRecord} (h : s.port.walk = some pos)
    (hnext : s.table.nextRecord pos = some r) : s.walkNext = s.stream (r.keyed s.ownSlot) (some r.pos) := by
  simp only [State.walkNext, h, hnext]

theorem State.walkNext_of_end {s : State} {pos : WalkPos} (h : s.port.walk = some pos)
    (hnext : s.table.nextRecord pos = none) :
    s.walkNext = s.stream ([0xFF] ++ beBytes 4 s.table.changeCount.toNat) none := by
  simp only [State.walkNext, h, hnext]

/-- Settles O8: the opening by `State.newSelection_walk`, each record taken by `FigureTable.Ordered.nextRecord_iff`. -/
theorem walkFollowsTheTableByKey : Obligations.WalkFollowsTheTableByKey := by
  refine ⟨fun index s h => exec_served h (s.newSelection_walk index.toNat), fun s h => ?_,
    fun s pos hwalk hown hownRange hentries hentriesRange hpos => ?_, fun _ => rfl, keyedOwn_eq, fun _ => keyedEntry_eq⟩
  · rw [exec_walkRecordTaken, State.walkNext_of_none h]
  · have hnext := FigureTable.Ordered.nextRecord_iff (t := s.table) ⟨hown, hownRange, hentries, hentriesRange⟩ hpos
    refine ⟨fun r hr hisNext => ?_, fun hlast => ?_⟩
    · rw [exec_walkRecordTaken, State.walkNext_of_record hwalk ((hnext r).2 ⟨hr, hisNext⟩)]
      rfl
    · have hnone : s.table.nextRecord pos = none :=
        Option.eq_none_iff_forall_ne_some.2 fun r hr => hlast r ((hnext r).1 hr).1 ((hnext r).1 hr).2
      rw [exec_walkRecordTaken, State.walkNext_of_end hwalk hnone]
      rfl

end Sys2Proof.Machine
end

section
/-! PROOFS. When the port takes a request: under RESET and in a selection left over from it, while BUSY, and selections
that take no request (09 sections 9.1, 9.3). -/

namespace Sys2Proof.Machine

/-! ### Requests refused while BUSY (R160) -/

/-- A request outside the list served while BUSY is one that an idle port takes. -/
theorem exec_of_not_served {c : Instr} (h : isRequest c = true) (hserved : servedWhileBusy c = false) :
    ∃ body, ∀ s, exec c s = .next (s.takeRequest body) := by
  have hrefused : (isRequest c && !servedWhileBusy c) = true := by rw [h, hserved]; rfl
  clear h hserved
  cases c with
  | sheetBegin | sheetParcel | sheetRoster | sheetPoint | sheetEnd | start => exact ⟨_, fun _ => rfl⟩
  | post | permit | revoke | withdraw | attest | finalise | restart | linkReset => exact ⟨_, fun _ => rfl⟩
  | acknowledge | noticeEnable | edgeSelect | watchAdd | watchRemove => exact ⟨_, fun _ => rfl⟩
  | _ => exact absurd hrefused Bool.false_ne_true

/-! ### Requests served in every port state (R160) -/

/-- The state with another operation in flight. -/
def State.withBusy (s : State) (op : Option LongOp) : State := { s with port := { s.port with busy := op } }

/-- A request that does with any busy state what it does with any other. -/
def BusyBlind (body : State → State) : Prop :=
  ∀ (op : Option LongOp) (s : State), body (s.withBusy op).newSelection = (body s.newSelection).withBusy op

theorem State.checked_withBusy (s t : State) (op : Option LongOp) (refusals : List (Bool × ResultCode)) :
    (s.withBusy op).checked refusals (t.withBusy op) = (s.checked refusals t).withBusy op := by
  unfold State.checked
  cases firstRefusal refusals <;> rfl

/-- A request by its refusals is blind to the busy state where its refusals and what it does are. -/
theorem BusyBlind.of_checked {body taken : State → State} {refusals : State → List (Bool × ResultCode)}
    (h : ∀ s : State, body s.newSelection = s.checked (refusals s) (taken s))
    (hrefusals : ∀ (op : Option LongOp) (s : State), refusals (s.withBusy op) = refusals s)
    (htaken : ∀ (op : Option LongOp) (s : State), taken (s.withBusy op) = (taken s).withBusy op) : BusyBlind body := by
  intro op s
  rw [h, h, hrefusals, htaken, State.checked_withBusy]

theorem State.readEntry_busyBlind (form first second : Byte) :
    BusyBlind (State.readEntry form.toNat first.toNat second.toNat) := by
  by_cases hzero : form = 0
  · subst hzero
    exact .of_checked (State.newSelection_readEntry_key first second) (fun _ _ => rfl) fun _ _ => rfl
  · by_cases hone : form = 1
    · subst hone
      exact .of_checked (State.newSelection_readEntry_index first.toNat second.toNat) (fun _ _ => rfl) fun _ _ => rfl
    · have hform : 1 < form.toNat := by bv_omega
      intro op s
      rw [State.newSelection_readEntry_other hform, State.newSelection_readEntry_other hform]
      rfl

/-- Every request of the list but STATUS is blind to the busy state. -/
theorem exec_of_served {c : Instr} (h : servedWhileBusy c = true) (hstatus : c ≠ .status) :
    ∃ body, (∀ s, exec c s = .next (s.serveRequest body)) ∧ BusyBlind body := by
  cases c with
  | status => exact absurd rfl hstatus
  | identify | serviceQuery | readCounters | readNotices => exact ⟨_, fun _ => rfl, fun _ _ => rfl⟩
  | readPoint point =>
    exact ⟨_, fun _ => rfl, .of_checked (State.newSelection_readPoint _) (fun _ _ => rfl) fun _ _ => rfl⟩
  | readEntry form first second => exact ⟨_, fun _ => rfl, State.readEntry_busyBlind form first second⟩
  | readParcel parcel =>
    exact ⟨_, fun _ => rfl, .of_checked (State.newSelection_readParcel _) (fun _ _ => rfl) fun _ _ => rfl⟩
  | readAttest parcel epoch =>
    exact ⟨_, fun _ => rfl, .of_checked (State.newSelection_readAttest _ _) (fun _ _ => rfl) fun _ _ => rfl⟩
  | readPeer slot =>
    exact ⟨_, fun _ => rfl, .of_checked (State.newSelection_readPeer _) (fun _ _ => rfl) fun _ _ => rfl⟩
  | walk index =>
    exact ⟨_, fun _ => rfl, .of_checked (State.newSelection_walk _) (fun _ _ => rfl) fun _ _ => rfl⟩
  | _ => exact absurd h Bool.false_ne_true

theorem BusyBlind.serveRequest {body : State → State} (h : BusyBlind body) (op : Option LongOp) (s : State) :
    (s.withBusy op).serveRequest body = (s.serveRequest body).withBusy op := by
  unfold State.serveRequest
  rw [h op s, apply_ite (State.withBusy · op)]
  rfl

/-! ### RESET and selections that take no request (R157, R158, R161) -/

/-- Every request goes through the port, which ignores it under RESET and in a selection left over from it. -/
theorem exec_of_isRequest {c : Instr} (h : isRequest c = true) :
    ∃ body, ∀ s, exec c s = .next (s.serveRequest body) := by
  cases hserved : servedWhileBusy c with
  | false =>
    obtain ⟨body, hbody⟩ := exec_of_not_served h hserved
    exact ⟨_, hbody⟩
  | true =>
    by_cases hstatus : c = .status
    · subst hstatus
      exact ⟨_, fun _ => rfl⟩
    · obtain ⟨body, hbody, -⟩ := exec_of_served hserved hstatus
      exact ⟨body, hbody⟩

theorem exec_unknownRequest (code : Byte) (s : State) : exec (.unknownRequest code) s =
    .next (if (paramBytes code).isNone then s.serveRequest (State.answerCode .unknown) else s) := rfl

theorem exec_unknownRequest_ignored (code : Byte) {s : State} (h : s.resetAsserted = true ∨ s.port.ignoring = true) :
    exec (.unknownRequest code) s = .next s := by
  rw [exec_unknownRequest, State.serveRequest_ignored h, ite_self]

theorem exec_earlyDeselection (bits : Nat) (s : State) :
    exec (.earlyDeselection bits) s = .next (s.earlyDeselection bits) := rfl

theorem State.earlyDeselection_of_takes {s : State} (h : s.takes) (bits : Nat) : s.earlyDeselection bits =
    { s with port := { s.port with walk := none, last := if bits = 0 then s.port.last else .short } } := by
  obtain ⟨hreset, hignoring⟩ := h
  unfold State.earlyDeselection
  rw [if_neg (Bool.eq_false_iff.1 hreset), if_neg (Bool.eq_false_iff.1 hignoring)]
  dsimp only
  split_ifs <;> rfl

theorem State.earlyDeselection_of_reset {s : State} (h : s.resetAsserted = true) (bits : Nat) :
    s.earlyDeselection bits = s := if_pos h

theorem State.earlyDeselection_of_ignoring {s : State} (hreset : s.resetAsserted = false) (h : s.port.ignoring = true)
    (bits : Nat) : s.earlyDeselection bits = { s with port := { s.port with ignoring := false } } := by
  unfold State.earlyDeselection
  rw [if_neg (Bool.eq_false_iff.1 hreset), if_pos h]

/-- Settles O2: the requests by how the port takes them, the other selections one by one. -/
theorem portRefusesUnderResetAndWhileBusy : Obligations.PortRefusesUnderResetAndWhileBusy := by
  refine ⟨fun c s hc h => ?_, fun code s h hcode => ?_, fun bits s h => ?_, fun bits s h => ?_,
    fun bits s hreset h => ?_, fun s => rfl, fun selLow s h => congrArg _ (if_pos h),
    fun c s hc hserved h hbusy => ?_, fun c s t op hserved hstatus hexec => ?_⟩
  · rcases hc with hc | ⟨code, rfl⟩
    · obtain ⟨body, hbody⟩ := exec_of_isRequest hc
      rw [hbody, State.serveRequest_ignored h]
    · exact exec_unknownRequest_ignored code h
  · rw [exec_unknownRequest, hcode]
    exact exec_served h (s.newSelection_answerCode .unknown)
  · rw [exec_earlyDeselection, State.earlyDeselection_of_takes h]
  · rw [exec_earlyDeselection, State.earlyDeselection_of_reset h]
  · rw [exec_earlyDeselection, State.earlyDeselection_of_ignoring hreset h]
  · obtain ⟨body, hbody⟩ := exec_of_not_served hc hserved
    rw [hbody, State.takeRequest_busy h hbusy]
  · obtain ⟨body, hbody, hblind⟩ := exec_of_served hserved hstatus
    obtain rfl : s.serveRequest body = t := by simpa [hbody] using hexec
    exact (hbody _).trans (congrArg _ (hblind.serveRequest op s))

end Sys2Proof.Machine
end

section
/-! PROOFS. The own point and peer entry records: a header of packed fields, then one row of packed fields for each held
observation in epoch order (10 sections 10.3, 10.4). -/

namespace Sys2Proof.Machine

/-! ### Bytes that stand at an offset -/

/-- The bytes `piece` stand in `d` from the offset on. -/
def StandsAt (d : List Byte) (offset : Nat) (piece : List Byte) : Prop :=
  ∃ pre tail, d = pre ++ (piece ++ tail) ∧ pre.length = offset

theorem StandsAt.left {d a b : List Byte} {offset : Nat} (h : StandsAt d offset (a ++ b)) : StandsAt d offset a := by
  obtain ⟨pre, tail, rfl, hpre⟩ := h
  exact ⟨pre, b ++ tail, by rw [List.append_assoc], hpre⟩

/-- The i-th of the pieces of `w` bytes each that follow a header stands at `w` bytes a piece behind the header. -/
theorem standsAt_flatMap {α : Type} {f : α → List Byte} {w : Nat} (hf : ∀ x, (f x).length = w) (header : List Byte)
    {l : List α} {i : Nat} {x : α} (h : l[i]? = some x) :
    StandsAt (header ++ l.flatMap f) (header.length + w * i) (f x) := by
  obtain ⟨hi, hx⟩ := List.getElem?_eq_some_iff.1 h
  have hsplit : l = l.take i ++ x :: l.drop (i + 1) := by
    conv_lhs => rw [← List.take_append_drop i l, List.drop_eq_getElem_cons hi, hx]
  refine ⟨header ++ (l.take i).flatMap f, (l.drop (i + 1)).flatMap f, ?_, ?_⟩
  · conv_lhs => rw [hsplit]
    rw [List.flatMap_append, List.flatMap_cons, List.append_assoc]
  · simp [List.length_flatMap, hf, Nat.min_eq_left hi.le, Nat.mul_comm]

/-- A field of packed fields that stand at an offset. -/
theorem StandsAt.field_eq {d : List Byte} {start : Nat} {fields : List (Nat × Nat)}
    (h : StandsAt d start (packed fields)) (i : Nat) {offset w n : Nat} (hfield : fields[i]? = some (w, n))
    (hoffset : ((fields.take i).map (·.1)).sum = offset) (hn : n < 256 ^ w) : fieldAt d (start + offset) w = n := by
  obtain ⟨pre, tail, rfl, rfl⟩ := h
  rw [fieldAt, slice_append_left, ← hoffset]
  exact fieldAt_packed hfield hn tail

/-! ### Observations (R171) -/

/-- The fields of an own observation. -/
def Observation.fields (o : Observation) : List (Nat × Nat) :=
  [(2, o.revision), (4, o.raw.quantity), (4, o.raw.water), (2, (BitVec.ofInt 16 o.raw.temperature).toNat),
    (3, o.std.vcf), (4, o.std.gsv), (4, o.std.mass), (2, o.std.quals.mask)]

theorem Observation.bytes_eq (o : Observation) : o.bytes = packed o.fields := by
  simp [Observation.bytes, Observation.fields, packed, beSigned]

theorem Observation.bytes_length (o : Observation) : o.bytes.length = 25 := by
  rw [o.bytes_eq, packed_length]
  rfl

/-- The flags of a peer observation: bit 0 the mismatch, bit 1 the conflict. -/
def PeerObservation.flags (o : PeerObservation) : Nat := (if o.mismatch then 1 else 0) + (if o.conflict then 2 else 0)

theorem PeerObservation.flags_bits (o : PeerObservation) :
    o.flags < 4 ∧ o.flags.testBit 0 = o.mismatch ∧ o.flags.testBit 1 = o.conflict := by
  unfold PeerObservation.flags
  cases o.mismatch <;> cases o.conflict <;> decide

/-- The fields of a peer observation: those of the observation, the source values and the flags. -/
def PeerObservation.fields (o : PeerObservation) : List (Nat × Nat) :=
  o.obs.fields ++ [(4, o.source.gsv), (2, o.source.quals.mask), (1, o.flags)]

theorem PeerObservation.bytes_eq (o : PeerObservation) : o.bytes = packed o.fields := by
  rw [PeerObservation.fields, packed_append, ← Observation.bytes_eq]
  simp [PeerObservation.bytes, PeerObservation.flags, packed]

theorem PeerObservation.bytes_length (o : PeerObservation) : o.bytes.length = 32 := by
  rw [o.bytes_eq, packed_length]
  rfl

/-- The values of an observation fit the fields of a record. -/
def Observation.FitsRecord (o : Observation) : Prop :=
  o.revision ≤ 65535 ∧ o.raw.quantity ≤ 4294967295 ∧ o.raw.water ≤ 4294967295 ∧ -32768 ≤ o.raw.temperature
    ∧ o.raw.temperature ≤ 32767 ∧ o.std.vcf ≤ 16777215 ∧ o.std.gsv ≤ 4294967295 ∧ o.std.mass ≤ 4294967295

/-- The values of an observation read back at their offsets from a place on. -/
def Observation.ReadsAt (o : Observation) (d : List Byte) (place : Nat) : Prop :=
  fieldAt d place 2 = o.revision ∧ fieldAt d (place + 2) 4 = o.raw.quantity ∧ fieldAt d (place + 6) 4 = o.raw.water
    ∧ (BitVec.ofNat 16 (fieldAt d (place + 10) 2)).toInt = o.raw.temperature ∧ fieldAt d (place + 12) 3 = o.std.vcf
    ∧ fieldAt d (place + 15) 4 = o.std.gsv ∧ fieldAt d (place + 19) 4 = o.std.mass
    ∧ (fieldAt d (place + 23) 2).testBit 0 = o.std.quals.waterClamp
    ∧ (fieldAt d (place + 23) 2).testBit 1 = o.std.quals.dtClamp
    ∧ (fieldAt d (place + 23) 2).testBit 2 = o.std.quals.vcfClamp
    ∧ (fieldAt d (place + 23) 2).testBit 3 = o.std.quals.gsvSat
    ∧ (fieldAt d (place + 23) 2).testBit 4 = o.std.quals.massSat ∧ fieldAt d (place + 23) 2 < 32

theorem Observation.readsAt {o : Observation} (hfits : o.FitsRecord) {d : List Byte} {place : Nat}
    (h : StandsAt d place (packed o.fields)) : o.ReadsAt d place := by
  obtain ⟨hrevision, hquantity, hwater, hlow, hhigh, hvcf, hgsv, hmass⟩ := hfits
  obtain ⟨hmask, hbits⟩ := o.std.quals.mask_bits
  have hquals : fieldAt d (place + 23) 2 = o.std.quals.mask := h.field_eq 7 rfl rfl (by omega)
  have htemperature : fieldAt d (place + 10) 2 = (BitVec.ofInt 16 o.raw.temperature).toNat :=
    h.field_eq 3 rfl rfl (word_lt 2 _)
  obtain ⟨hclampWater, hclampDt, hclampVcf, hsatGsv, hsatMass⟩ := hbits
  unfold Observation.ReadsAt
  rw [hquals]
  exact ⟨h.field_eq 0 rfl rfl (by omega), h.field_eq 1 rfl rfl (by omega),
    h.field_eq 2 rfl rfl (by omega), toInt_of_eq_ofInt htemperature (by omega) (by omega),
    h.field_eq 4 rfl rfl (by omega), h.field_eq 5 rfl rfl (by omega), h.field_eq 6 rfl rfl (by omega),
    hclampWater, hclampDt, hclampVcf, hsatGsv, hsatMass, hmask⟩

/-- A peer observation reads back as its observation, the source values behind it and the flags. -/
theorem PeerObservation.readsAt {o : PeerObservation} (hfits : o.obs.FitsRecord) (hsource : o.source.gsv ≤ 4294967295)
    {d : List Byte} {place : Nat} (h : StandsAt d place (packed o.fields)) :
    o.obs.ReadsAt d place ∧ fieldAt d (place + 25) 4 = o.source.gsv ∧ fieldAt d (place + 29) 2 = o.source.quals.mask
      ∧ (fieldAt d (place + 31) 1).testBit 0 = o.mismatch ∧ (fieldAt d (place + 31) 1).testBit 1 = o.conflict := by
  obtain ⟨hmask, -⟩ := o.source.quals.mask_bits
  obtain ⟨hlt, hmismatch, hconflict⟩ := o.flags_bits
  have hflags : fieldAt d (place + 31) 1 = o.flags := h.field_eq 10 rfl rfl (by omega)
  have hobs : StandsAt d place (packed o.obs.fields) := by
    rw [PeerObservation.fields, packed_append] at h
    exact h.left
  rw [hflags]
  exact ⟨Observation.readsAt hfits hobs, h.field_eq 8 rfl rfl (by omega),
    h.field_eq 9 rfl rfl (by omega), hmismatch, hconflict⟩

/-! ### The headers of the two records (R171) -/

theorem Protection.code_lt (l : Protection) : l.code < 256 := by cases l <;> decide

/-- The fields of an own point record before its observations. -/
def OwnPoint.headerFields (p : OwnPoint) : List (Nat × Nat) :=
  [(1, p.number), (1, p.kind.code), (1, p.parcel), (3, p.meterFactor), (1, (flagByte p.withdrawn).toNat),
    (1, p.protection.code), (1, p.slots.mask)]

theorem OwnPoint.bytes_eq (p : OwnPoint) :
    p.bytes = packed p.headerFields ++ p.slots.held.flatMap Observation.bytes := by
  simp [OwnPoint.bytes, OwnPoint.headerFields, packed, beBytes_toNat]

theorem OwnPoint.header_length (p : OwnPoint) : (packed p.headerFields).length = 9 := packed_length _

/-- A field of the header reads back at its offset. -/
theorem OwnPoint.fieldAt_header (p : OwnPoint) (i : Nat) {offset w n : Nat} (h : p.headerFields[i]? = some (w, n))
    (hoffset : ((p.headerFields.take i).map (·.1)).sum = offset) (hn : n < 256 ^ w) : fieldAt p.bytes offset w = n := by
  rw [p.bytes_eq, ← hoffset]
  exact fieldAt_packed h hn _

/-- The fields of a peer entry record before its observations. -/
def PeerEntry.headerFields (e : PeerEntry) : List (Nat × Nat) :=
  [(1, e.kind.code), (1, e.parcel), (3, e.meterFactor), (1, e.slots.mask)]

theorem PeerEntry.bytes_eq (e : PeerEntry) :
    e.bytes = packed e.headerFields ++ e.slots.held.flatMap PeerObservation.bytes := by
  simp [PeerEntry.bytes, PeerEntry.headerFields, packed]

theorem PeerEntry.header_length (e : PeerEntry) : (packed e.headerFields).length = 6 := packed_length _

theorem PeerEntry.fieldAt_header (e : PeerEntry) (i : Nat) {offset w n : Nat} (h : e.headerFields[i]? = some (w, n))
    (hoffset : ((e.headerFields.take i).map (·.1)).sum = offset) (hn : n < 256 ^ w) : fieldAt e.bytes offset w = n := by
  rw [e.bytes_eq, ← hoffset]
  exact fieldAt_packed h hn _

/-! ### The observations of the two records (R171) -/

theorem OwnPoint.bytes_length (p : OwnPoint) : p.bytes.length = 9 + 25 * p.slots.held.length := by
  rw [p.bytes_eq, List.length_append, p.header_length]
  simp [Observation.bytes_length, Nat.mul_comm]

theorem PeerEntry.bytes_length (e : PeerEntry) : e.bytes.length = 6 + 32 * e.slots.held.length := by
  rw [e.bytes_eq, List.length_append, e.header_length]
  simp [PeerObservation.bytes_length, Nat.mul_comm]

/-- The i-th held observation stands behind the header and the i before it. -/
theorem OwnPoint.standsAt_held {p : OwnPoint} {i : Nat} {o : Observation} (h : p.slots.held[i]? = some o) :
    StandsAt p.bytes (9 + 25 * i) (packed o.fields) := by
  rw [p.bytes_eq, ← p.header_length, ← o.bytes_eq]
  exact standsAt_flatMap Observation.bytes_length _ h

theorem PeerEntry.standsAt_held {e : PeerEntry} {i : Nat} {o : PeerObservation} (h : e.slots.held[i]? = some o) :
    StandsAt e.bytes (6 + 32 * i) (packed o.fields) := by
  rw [e.bytes_eq, ← e.header_length, ← o.bytes_eq]
  exact standsAt_flatMap PeerObservation.bytes_length _ h

/-- Settles O7: the header's fields, the mask's bits, and each held observation as the piece that stands at its place. -/
theorem observationRecordLayouts : Obligations.ObservationRecordLayouts := by
  unfold Obligations.ObservationRecordLayouts
  intro kind level inRange reads
  have hkind (k : PointKind) : k.code = kind k := by cases k <;> rfl
  have hlevel (l : Protection) : l.code = level l := by cases l <;> rfl
  refine ⟨fun p hnumber hparcel hfactor => ?_, fun e hparcel hfactor => ?_, hkind, fun e => by cases e <;> rfl⟩
  · obtain ⟨hlt, hopening, hinterim, hclosing⟩ := p.slots.mask_bits
    have hmask : fieldAt p.bytes 8 1 = p.slots.mask := p.fieldAt_header 6 rfl rfl (by omega)
    rw [hmask, ← hkind, ← hlevel]
    exact ⟨p.bytes_length, p.fieldAt_header 0 rfl rfl (by omega), p.fieldAt_header 1 rfl rfl p.kind.code_lt,
      p.fieldAt_header 2 rfl rfl (by omega), p.fieldAt_header 3 rfl rfl (by omega),
      (p.fieldAt_header 4 rfl rfl (word_lt 1 _)).trans (flagByte_toNat _),
      p.fieldAt_header 5 rfl rfl p.protection.code_lt, hopening, hinterim, hclosing, hlt,
      fun i o ho hfits => Observation.readsAt hfits (OwnPoint.standsAt_held ho)⟩
  · obtain ⟨hlt, hopening, hinterim, hclosing⟩ := e.slots.mask_bits
    have hmask : fieldAt e.bytes 5 1 = e.slots.mask := e.fieldAt_header 3 rfl rfl (by omega)
    rw [hmask, ← hkind]
    exact ⟨e.bytes_length, e.fieldAt_header 0 rfl rfl e.kind.code_lt, e.fieldAt_header 1 rfl rfl (by omega),
      e.fieldAt_header 2 rfl rfl (by omega), hopening, hinterim, hclosing, hlt,
      fun i o ho hfits hsource => PeerObservation.readsAt hfits hsource (PeerEntry.standsAt_held ho)⟩

end Sys2Proof.Machine
end

section
/-! PROOFS. The coding of station port requests: words and bits as bytes, the request taken from its bytes, and what stands on
SDO meanwhile (10 sections 10.2, 10.4; 09 section 9.1). -/

namespace Sys2Proof.Machine

/-! ### Words of two to four bytes (spec 00, "Byte order") -/

theorem word16_bytes (w : BitVec 16) : word16 (w.extractLsb' 8 8) (w.extractLsb' 0 8) = w :=
  (BitVec.extractLsb'_append_extractLsb'_eq_extractLsb' rfl).trans BitVec.extractLsb'_eq_self

theorem word24_bytes (w : BitVec 24) : word24 (w.extractLsb' 16 8) (w.extractLsb' 8 8) (w.extractLsb' 0 8) = w := by
  rw [word24, BitVec.extractLsb'_append_extractLsb'_eq_extractLsb' (show 16 = 8 + 8 from rfl),
    BitVec.extractLsb'_append_extractLsb'_eq_extractLsb' (show 8 = 0 + 8 from rfl)]
  exact BitVec.extractLsb'_eq_self

theorem word32_bytes (w : BitVec 32) :
    word32 (w.extractLsb' 24 8) (w.extractLsb' 16 8) (w.extractLsb' 8 8) (w.extractLsb' 0 8) = w := by
  rw [word32, BitVec.extractLsb'_append_extractLsb'_eq_extractLsb' (show 24 = 16 + 8 from rfl),
    BitVec.extractLsb'_append_extractLsb'_eq_extractLsb' (show 16 = 8 + 8 from rfl),
    BitVec.extractLsb'_append_extractLsb'_eq_extractLsb' (show 8 = 0 + 8 from rfl)]
  exact BitVec.extractLsb'_eq_self

theorem beNat_bytes16 (w : BitVec 16) : beNat (bytes16 w) = w.toNat := by
  rw [bytes16_eq, beNat_beBytes w.isLt]

theorem beNat_bytes24 (w : BitVec 24) : beNat (bytes24 w) = w.toNat := by
  simp only [bytes24, beNat, List.foldl_cons, List.foldl_nil, BitVec.extractLsb'_toNat, Nat.shiftRight_eq_div_pow]
  omega

theorem beNat_bytes32 (w : BitVec 32) : beNat (bytes32 w) = w.toNat := by
  simp only [bytes32, beNat, List.foldl_cons, List.foldl_nil, BitVec.extractLsb'_toNat, Nat.shiftRight_eq_div_pow]
  omega

/-! ### Bits, most significant first (R156) -/

/-- The bits of a byte in the order in which they are clocked. -/
def bitsOfByte (x : Byte) : List Bool := (List.range 8).map (fun k => x.getLsbD (7 - k))

theorem bitsOfByte_length (x : Byte) : (bitsOfByte x).length = 8 := rfl

theorem ofBoolListBE_bitsOfByte (x : Byte) : BitVec.ofBoolListBE (bitsOfByte x) = x := by
  refine BitVec.eq_of_getLsbD_eq fun i hi => ?_
  have hi : i < 8 := hi
  rw [BitVec.getLsbD_ofBoolListBE]
  interval_cases i <;> rfl

theorem bytesOfBits_byte (x : Byte) (bits : List Bool) : bytesOfBits (bitsOfByte x ++ bits) = x :: bytesOfBits bits :=
  congrArg (· :: bytesOfBits bits) (ofBoolListBE_bitsOfByte x)

/-- Fewer than eight bits make no byte. -/
theorem bytesOfBits_of_short {bits : List Bool} (h : bits.length < 8) : bytesOfBits bits = [] := by
  unfold bytesOfBits
  split
  · simp only [List.length_cons] at h
    omega
  · rfl

theorem bytesOfBits_flatMap (bytes : List Byte) {tail : List Bool} (h : tail.length < 8) :
    bytesOfBits (bytes.flatMap bitsOfByte ++ tail) = bytes := by
  induction bytes with
  | nil => exact bytesOfBits_of_short h
  | cons x bytes ih => rw [List.flatMap_cons, List.append_assoc, bytesOfBits_byte, ih]

/-- The bits of the next byte are counted from the last whole byte on. -/
theorem bits_length_mod (bytes : List Byte) {tail : List Bool} (h : tail.length < 8) :
    (bytes.flatMap bitsOfByte ++ tail).length % 8 = tail.length := by
  have hbytes : (bytes.flatMap bitsOfByte).length = 8 * bytes.length := by
    simp [List.length_flatMap, bitsOfByte_length, Nat.mul_comm]
  rw [List.length_append, hbytes]
  omega

/-! ### Codes and parameters (R170) -/

/-- The request codes of section 10.4. -/
def requestCodes : List Byte :=
  [0x01, 0x02, 0x10, 0x11, 0x12, 0x13, 0x14, 0x15, 0x20, 0x21, 0x22, 0x23, 0x24, 0x25, 0x26, 0x27, 0x30, 0x31, 0x32, 0x33,
    0x34, 0x35, 0x40, 0x41, 0x42, 0x43, 0x44, 0x45, 0x46, 0x47]

theorem paramBytes_eq_none_iff (code : Byte) : paramBytes code = none ↔ code ∉ requestCodes := by
  constructor
  · intro hnone hmem
    have hnamed : ∀ c ∈ requestCodes, paramBytes c ≠ none := by decide
    exact hnamed code hmem hnone
  · intro hnot
    have hvalue : code.toNat ∉ requestCodes.map BitVec.toNat :=
      fun h => hnot ((List.mem_map_of_injective fun _ _ => BitVec.eq_of_toNat_eq).1 h)
    unfold paramBytes
    split
    case h_31 => rfl
    all_goals next hcode => exact absurd (by rw [hcode]; decide) hvalue

/-- A request's parameters are as many bytes as its code is followed by. -/
theorem paramBytes_of_requestCode {i : Instr} {code : Byte} (h : requestCode i = some code) :
    paramBytes code = some (encodeParams i).length := by
  cases i <;> cases h <;> rfl

theorem decodeParams_encodeParams {i : Instr} {code : Byte} (h : requestCode i = some code) :
    decodeParams code (encodeParams i) = some i := by
  cases i with
  | sheetBegin number revision ownSlot direction amendMode silence republish =>
    cases h
    have hdecode : decodeParams 0x10 (encodeParams
        (.sheetBegin number revision ownSlot direction amendMode silence republish)) =
      some (.sheetBegin (word32 _ _ _ _) (word16 _ _) ownSlot direction amendMode (word16 _ _) republish) := rfl
    rw [hdecode, word32_bytes, word16_bytes, word16_bytes]
  | sheetParcel parcel tRef a b d vef inner outer custody =>
    cases h
    have hdecode : decodeParams 0x11 (encodeParams (.sheetParcel parcel tRef a b d vef inner outer custody)) =
      some (.sheetParcel parcel (word16 _ _) (word16 _ _) (word16 _ _) (word16 _ _) (word24 _ _ _) (word16 _ _)
        (word16 _ _) custody) := rfl
    simp only [hdecode, word16_bytes, word24_bytes]
  | sheetPoint point parcel meterFactor =>
    cases h
    exact congrArg (fun w => some (Instr.sheetPoint point parcel w)) (word24_bytes meterFactor)
  | post point epoch quantity water temperature =>
    cases h
    have hdecode : decodeParams 0x20 (encodeParams (.post point epoch quantity water temperature)) =
      some (.post point epoch (word32 _ _ _ _) (word32 _ _ _ _) (word16 _ _)) := rfl
    rw [hdecode, word32_bytes, word32_bytes, word16_bytes]
  | _ => cases h <;> rfl

/-- With a parameter byte missing there is no request: the number of bytes is part of every pattern (R157). -/
theorem decodeParams_take {i : Instr} {code : Byte} (h : requestCode i = some code) {k : Nat}
    (hk : k < (encodeParams i).length) : decodeParams code ((encodeParams i).take k) = none := by
  cases i with
  | sheetBegin | post =>
    cases h
    replace hk : k < 12 := hk
    interval_cases k <;> rfl
  | sheetParcel =>
    cases h
    replace hk : k < 17 := hk
    interval_cases k <;> rfl
  | sheetPoint =>
    cases h
    replace hk : k < 5 := hk
    interval_cases k <;> rfl
  | readEntry =>
    cases h
    replace hk : k < 3 := hk
    interval_cases k <;> rfl
  | sheetRoster | attest | acknowledge | noticeEnable | edgeSelect | watchAdd | watchRemove | readAttest =>
    cases h
    replace hk : k < 2 := hk
    interval_cases k <;> rfl
  | withdraw | readPoint | readParcel | readPeer | walk =>
    cases h
    obtain rfl : k = 0 := Nat.lt_one_iff.1 hk
    rfl
  | _ => cases h <;> exact absurd hk (Nat.not_lt_zero k)

/-! ### The request taken from the bytes of a selection (R156, R157, R158) -/

theorem decodeRequest_taken {code : Byte} {params : List Byte} {n : Nat} {i : Instr} (hcode : paramBytes code = some n)
    (h : decodeParams code (params.take n) = some i) : decodeRequest (code :: params) = .taken i := by
  simp only [decodeRequest, hcode, h]

theorem decodeRequest_notTaken {code : Byte} {params : List Byte} {n : Nat} (hcode : paramBytes code = some n)
    (h : decodeParams code (params.take n) = none) : decodeRequest (code :: params) = .notTaken := by
  simp only [decodeRequest, hcode, h]

theorem decodeRequest_unknown {code : Byte} (h : paramBytes code = none) (params : List Byte) :
    decodeRequest (code :: params) = .taken (.unknownRequest code) := by
  simp only [decodeRequest, h]

/-- What has bytes is a request with its code and parameters, or a code on its own. -/
theorem encodeRequest_cases {i : Instr} {bytes : List Byte} (h : encodeRequest i = some bytes) :
    (∃ code, requestCode i = some code ∧ bytes = code :: encodeParams i)
      ∨ ∃ code, i = .unknownRequest code ∧ bytes = [code] := by
  unfold encodeRequest at h
  split at h
  · exact .inr ⟨_, rfl, (Option.some.inj h).symm⟩
  · obtain ⟨code, hcode, rfl⟩ := Option.map_eq_some_iff.1 h
    exact .inl ⟨code, hcode, rfl⟩

theorem decodeRequest_encodeRequest {i : Instr} {bytes : List Byte} (hi : i.wellFormed = true)
    (h : encodeRequest i = some bytes) (extra : List Byte) : decodeRequest (bytes ++ extra) = .taken i := by
  rcases encodeRequest_cases h with ⟨code, hcode, rfl⟩ | ⟨code, rfl, rfl⟩
  · exact decodeRequest_taken (paramBytes_of_requestCode hcode)
      ((congrArg _ List.take_left).trans (decodeParams_encodeParams hcode))
  · exact decodeRequest_unknown (Option.isNone_iff_eq_none.1 hi) extra

theorem decodeRequest_take {i : Instr} {bytes : List Byte} (hi : isRequest i = true) (h : encodeRequest i = some bytes)
    {n : Nat} (hn : n < bytes.length) : decodeRequest (bytes.take n) = .notTaken := by
  rcases encodeRequest_cases h with ⟨code, hcode, rfl⟩ | ⟨code, rfl, rfl⟩
  · cases n with
    | zero => rfl
    | succ k =>
      have hk : k < (encodeParams i).length := Nat.lt_of_succ_lt_succ hn
      refine decodeRequest_notTaken (paramBytes_of_requestCode hcode) ?_
      rw [List.take_take, Nat.min_eq_right hk.le, decodeParams_take hcode hk]
  · exact absurd hi Bool.false_ne_true

/-! ### SDO (R156, R157, R161) -/

theorem State.sdo_not_driven {selLow : Bool} {s : State} (h : selLow = false ∨ s.resetAsserted = true)
    (sent : List Byte) : s.sdo selLow sent = none := by
  refine if_pos ?_
  rcases h with rfl | hreset
  · rfl
  · rw [hreset, Bool.or_true, Bool.true_or]

theorem State.sdo_of_takes {s : State} (h : s.takes) (sent : List Byte) : s.sdo true sent =
    if sent.length < requestBytes sent then some 0
      else some (s.port.reply.getD (sent.length - requestBytes sent) 0) := by
  obtain ⟨hreset, hignoring⟩ := h
  exact if_neg (by rw [hreset, hignoring]; decide)

/-- The first byte of a request tells how many bytes come in before the result code goes out. -/
theorem requestBytes_of_encodeRequest {i : Instr} {bytes : List Byte} (hi : i.wellFormed = true)
    (h : encodeRequest i = some bytes) :
    ∃ code params, bytes = code :: params ∧ ∀ sent, requestBytes (code :: sent) = bytes.length := by
  rcases encodeRequest_cases h with ⟨code, hcode, rfl⟩ | ⟨code, rfl, rfl⟩
  · refine ⟨code, encodeParams i, rfl, fun sent => ?_⟩
    rw [requestBytes, paramBytes_of_requestCode hcode, Option.getD_some, List.length_cons, Nat.add_comm]
  · refine ⟨code, [], rfl, fun sent => ?_⟩
    rw [requestBytes, Option.isNone_iff_eq_none.1 hi]
    rfl

section Selection

variable {i : Instr} {bytes : List Byte} {s : State}

theorem State.sdo_during_request (hi : i.wellFormed = true) (h : encodeRequest i = some bytes) (hs : s.takes) {n : Nat}
    (hn : n < bytes.length) : s.sdo true (bytes.take n) = some 0 := by
  obtain ⟨code, params, hbytes, hcount⟩ := requestBytes_of_encodeRequest hi h
  rw [State.sdo_of_takes hs]
  refine if_pos ?_
  cases n with
  | zero => exact Nat.one_pos
  | succ k =>
    have hsent : bytes.take (k + 1) = code :: params.take k := by rw [hbytes, List.take_succ_cons]
    rw [List.length_take, Nat.min_eq_left hn.le, hsent, hcount]
    exact hn

theorem State.sdo_after_request (hi : i.wellFormed = true) (h : encodeRequest i = some bytes) (hs : s.takes)
    (extra : List Byte) : s.sdo true (bytes ++ extra) = some (s.port.reply.getD extra.length 0) := by
  obtain ⟨code, params, hbytes, hcount⟩ := requestBytes_of_encodeRequest hi h
  have hsent : requestBytes (bytes ++ extra) = bytes.length := by
    rw [← hcount (params ++ extra), hbytes, List.cons_append]
  rw [State.sdo_of_takes hs, hsent, List.length_append, if_neg (Nat.not_lt.2 (Nat.le_add_right ..)),
    Nat.add_sub_cancel_left]

end Selection

theorem State.sdoLevel_of_sdo {s : State} {selLow : Bool} {bytes : List Byte} {b : Byte}
    (h : s.sdo selLow bytes = some b) {tail : List Bool} (htail : tail.length < 8) :
    s.sdoLevel selLow (bytes.flatMap bitsOfByte ++ tail) = some (b.getLsbD (7 - tail.length)) := by
  rw [State.sdoLevel, bytesOfBits_flatMap bytes htail, h, bits_length_mod bytes htail]
  rfl

/-- Settles O59: codes and parameters by `decodeParams_encodeParams`, SDO by the count of the request's bytes, bits by
`bytesOfBits_flatMap`, and each layout as the words' bytes in their order. -/
theorem requestsDecodeToWhatWasEncoded : Obligations.RequestsDecodeToWhatWasEncoded := by
  refine ⟨fun i bytes extra hi h => decodeRequest_encodeRequest hi h extra,
    fun i bytes n hi h hn => decodeRequest_take hi h hn, fun selLow sent s h => State.sdo_not_driven h sent,
    fun i bytes extra s hi h hs => ⟨fun n => State.sdo_during_request hi h hs, State.sdo_after_request hi h hs extra⟩,
    fun bytes tail s b htail => ⟨bytesOfBits_flatMap bytes htail, fun h => State.sdoLevel_of_sdo h htail⟩, ?_, ?_,
    fun number revision silence own direction mode republish => ?_,
    fun parcel custody tRef a b d inner outer vef => ?_,
    fun point parcel epoch factor quantity water temperature => ⟨?_, ?_⟩,
    fun code => ⟨paramBytes_eq_none_iff code, fun h => decodeRequest_unknown ((paramBytes_eq_none_iff code).2 h)⟩⟩
  · and_intros <;> rfl
  · intro a b c
    and_intros <;> rfl
  · exact ⟨_, rfl, rfl, rfl, beNat_bytes32 number, beNat_bytes16 revision, rfl, beNat_bytes16 silence, rfl⟩
  · exact ⟨_, rfl, rfl, rfl, rfl, beNat_bytes16 tRef, beNat_bytes16 a, beNat_bytes16 b, beNat_bytes16 d,
      beNat_bytes24 vef, beNat_bytes16 inner, beNat_bytes16 outer, rfl⟩
  · exact ⟨_, rfl, rfl, rfl, rfl, beNat_bytes24 factor⟩
  · exact ⟨_, rfl, rfl, rfl, rfl, beNat_bytes32 quantity, beNat_bytes32 water, beNat_bytes16 temperature⟩

end Sys2Proof.Machine
end

section
/-! PROOFS. A step with a command waiting (95, opening). -/

namespace Sys2Proof.Machine

/-- A command put at the front of the queue and taken from it again leaves the state as it was. -/
theorem State.pending_push_pop (c : Instr) (s : State) :
    { { s with pending := c :: s.pending } with pending := s.pending } = s := rfl

/-- Settles O1: the step takes the pushed command by `step_front`, and what is left is the state before the push. -/
theorem stepRunsFrontCommand : Obligations.StepRunsFrontCommand := by
  intro c s
  calc step { s with pending := c :: s.pending }
      = exec c { { s with pending := c :: s.pending } with pending := s.pending } := step_front rfl
    _ = exec c s := by rw [State.pending_push_pop]

end Sys2Proof.Machine
end
